-- ==== Sys2Proof/Word.lean ====
section
/-! DEFINITION. The word types of the QR core block: a codeword or field element is a byte (R6, R11), a CSR
and a command are 32 bits (R22, R95), and a matrix plane is 32768 bits (R44). -/

namespace Sys2Proof

/-- A codeword, a byte of memory, or an element of GF(256) (R6, R11). -/
abbrev Byte := BitVec 8

/-- A CSR, a command word, or the data of a host transaction (R22, R95, R71). -/
abbrev Word := BitVec 32

/-- One plane of the matrix RAM: physical plane bit `p` is bit `p` (R44). -/
abbrev Plane := BitVec 32768

end Sys2Proof
end

