-- ==== Sys2Proof/Syntax.lean ====
section
/-! DEFINITION. The commands of the QR core block (R103): one constructor per row of spec/opcode_table.json, with
the operand fields of its format (R96 to R101). Field elements are bytes; coordinates, EC lengths and exponents are
numbers (R102 zero-extends every field). -/

namespace Sys2Proof

/-- A command of the opcode map (R103). -/
inductive Instr where
  /-- NOP, format N (R200). -/
  | nop
  /-- MAT_NEW, format N (R144). -/
  | matNew
  /-- MAT_PUT `X, Y, V, F`, format MP (R145). -/
  | matPut (x y : Nat) (v f : Bool)
  /-- MAT_GET `X, Y`, format MG (R146). -/
  | matGet (x y : Nat)
  /-- GF_ADD `A, B`, format G2 (R116). -/
  | gfAdd (a b : Byte)
  /-- GF_MUL `A, B`, format G2 (R117). -/
  | gfMul (a b : Byte)
  /-- GF_EXP `A`, format G1: the operand is an exponent (R121). -/
  | gfExp (i : Nat)
  /-- GF_LOG `A`, format G1: the operand is a field element (R123). -/
  | gfLog (v : Byte)
  /-- RS_BLOCK `K`, format K: the operand is the EC length (R126). -/
  | rsBlock (k : Nat)
  /-- EC_PIPELINE, format N (R130). -/
  | ecPipeline
  /-- PAINT_FINDERS, format N (R151). -/
  | paintFinders
  /-- PAINT_SEPARATORS, format N (R152). -/
  | paintSeparators
  /-- PAINT_ALIGNMENT, format N (R153). -/
  | paintAlignment
  /-- PAINT_TIMING, format N (R154). -/
  | paintTiming
  /-- PAINT_DARK, format N (R155). -/
  | paintDark
  /-- RESERVE_FORMAT, format N (R157). -/
  | reserveFormat
  /-- RESERVE_VERSION, format N (R158). -/
  | reserveVersion
  /-- PAINT_FUNCTIONAL, format N (R159). -/
  | paintFunctional
  /-- WALK, format N (R171). -/
  | walk
  /-- PAINT_FORMAT, format N (R190). -/
  | paintFormat
  /-- PAINT_VERSION, format N (R192). -/
  | paintVersion
  /-- GENERATE, format N (R201). -/
  | generate
deriving DecidableEq, Repr

end Sys2Proof
end

