-- ==== Sys2Proof/WellFormed.lean ====
section
/-! DEFINITION. Which commands a word can hold: every numeric operand fits its 8-bit field (R102). -/

namespace Sys2Proof

/-- A value that fits an 8-bit operand field, `[0, 255]` (R102). -/
def fitsField (n : Nat) : Bool := decide (n < 256)

/-- Every operand fits its field (R96 to R102). Whether a value is one the command accepts is not checked here: a
command can be well formed and still raise an error (R106). -/
def Instr.wellFormed (i : Instr) : Bool :=
  match i with
  | .matPut x y _ _ => fitsField x && fitsField y
  | .matGet x y => fitsField x && fitsField y
  | .gfExp n => fitsField n
  | .rsBlock k => fitsField k
  | .nop | .matNew | .gfAdd _ _ | .gfMul _ _ | .gfLog _ | .ecPipeline | .paintFinders | .paintSeparators
  | .paintAlignment | .paintTiming | .paintDark | .reserveFormat | .reserveVersion | .paintFunctional | .walk
  | .paintFormat | .paintVersion | .generate => true

end Sys2Proof
end

