-- ==== Sys2Proof/Decode.lean ====
section
/-! DEFINITION. Decoding a command word (R104), encoding a command (R107), and reading a word back (R109). Every
format is made of whole bytes, but for the six reserved bits above `V` and `F` in format MP (R96 to R101). -/

namespace Sys2Proof

/-- Byte `i` of a word, byte 0 the least significant (R7, R75). -/
def byteOf (w : Word) (i : Nat) : Byte := w.extractLsb' (8 * i) 8

/-- The word `{b3, b2, b1, b0}` (R7: the first is the most significant). -/
def wordOf (b3 b2 b1 b0 : Byte) : Word := b3 ++ b2 ++ b1 ++ b0

/-- Why a word is not a command (R105). Both raise ILLEGAL_COMMAND. -/
inductive Illegal where
  /-- `w[7:0]` is in no row of the opcode map. -/
  | unlistedOpcode
  /-- The opcode is listed and a reserved bit of its format is 1. -/
  | reservedBits
deriving DecidableEq, Repr

/-- The six command formats (R96 to R101). -/
inductive Format where
  | n | g2 | g1 | mp | mg | k
deriving DecidableEq, Repr

/-- All bits of the format's `RSV` field are 0 (R104). -/
def reservedClear (fmt : Format) (w : Word) : Bool :=
  match fmt with
  | .n => byteOf w 1 == 0 && byteOf w 2 == 0 && byteOf w 3 == 0
  | .g2 => byteOf w 3 == 0
  | .g1 => byteOf w 2 == 0 && byteOf w 3 == 0
  | .mp => (byteOf w 3).extractLsb' 2 6 == 0
  | .mg => byteOf w 3 == 0
  | .k => byteOf w 2 == 0 && byteOf w 3 == 0

/-- A row of the opcode map (R103): the opcode, its format, and the command that bytes 1, 2 and 3 of the word
give. -/
structure OpcodeRow where
  opc : Byte
  format : Format
  build : Byte → Byte → Byte → Instr

/-- The rows of the matrix, GF and RS/EC groups (R103). -/
def opcodeRowsLow : List OpcodeRow :=
  [ ⟨0x00, .n, fun _ _ _ => .nop⟩,
    ⟨0x01, .n, fun _ _ _ => .matNew⟩,
    ⟨0x02, .mp, fun x y t => .matPut x.toNat y.toNat (t.getLsbD 0) (t.getLsbD 1)⟩,
    ⟨0x03, .mg, fun x y _ => .matGet x.toNat y.toNat⟩,
    ⟨0x10, .g2, fun a b _ => .gfAdd a b⟩,
    ⟨0x11, .g2, fun a b _ => .gfMul a b⟩,
    ⟨0x12, .g1, fun a _ _ => .gfExp a.toNat⟩,
    ⟨0x13, .g1, fun a _ _ => .gfLog a⟩,
    ⟨0x20, .k, fun k _ _ => .rsBlock k.toNat⟩,
    ⟨0x21, .n, fun _ _ _ => .ecPipeline⟩ ]

/-- The rows of the painter, walk, information and sequencer groups (R103). -/
def opcodeRowsHigh : List OpcodeRow :=
  [ ⟨0x30, .n, fun _ _ _ => .paintFinders⟩,
    ⟨0x31, .n, fun _ _ _ => .paintSeparators⟩,
    ⟨0x32, .n, fun _ _ _ => .paintAlignment⟩,
    ⟨0x33, .n, fun _ _ _ => .paintTiming⟩,
    ⟨0x34, .n, fun _ _ _ => .paintDark⟩,
    ⟨0x35, .n, fun _ _ _ => .reserveFormat⟩,
    ⟨0x36, .n, fun _ _ _ => .reserveVersion⟩,
    ⟨0x37, .n, fun _ _ _ => .paintFunctional⟩,
    ⟨0x40, .n, fun _ _ _ => .walk⟩,
    ⟨0x50, .n, fun _ _ _ => .paintFormat⟩,
    ⟨0x51, .n, fun _ _ _ => .paintVersion⟩,
    ⟨0x60, .n, fun _ _ _ => .generate⟩ ]

/-- The opcode map (R103). -/
def opcodeRows : List OpcodeRow := opcodeRowsLow ++ opcodeRowsHigh

/-- Decoding (R104): total on the 32-bit words; a word that is no command is rejected by name. -/
def decode (w : Word) : Except Illegal Instr :=
  match opcodeRows.find? (fun r => r.opc == byteOf w 0) with
  | none => .error .unlistedOpcode
  | some r =>
    if reservedClear r.format w then .ok (r.build (byteOf w 1) (byteOf w 2) (byteOf w 3))
    else .error .reservedBits

/-- An operand number in its 8-bit field (R102). -/
def fieldOf (n : Nat) : Byte := BitVec.ofNat 8 n

/-- The byte `{RSV = 000000, F, V}` of format MP (R99). -/
def modulePutByte (v f : Bool) : Byte := 0#6 ++ BitVec.ofBool f ++ BitVec.ofBool v

/-- `encode(mnemonic operands)`, the word `{RSV = 0, fields, OPC}` (R107). -/
def encode (i : Instr) : Word :=
  match i with
  | .nop => wordOf 0 0 0 0x00
  | .matNew => wordOf 0 0 0 0x01
  | .matPut x y v f => wordOf (modulePutByte v f) (fieldOf y) (fieldOf x) 0x02
  | .matGet x y => wordOf 0 (fieldOf y) (fieldOf x) 0x03
  | .gfAdd a b => wordOf 0 b a 0x10
  | .gfMul a b => wordOf 0 b a 0x11
  | .gfExp n => wordOf 0 0 (fieldOf n) 0x12
  | .gfLog v => wordOf 0 0 v 0x13
  | .rsBlock k => wordOf 0 0 (fieldOf k) 0x20
  | .ecPipeline => wordOf 0 0 0 0x21
  | .paintFinders => wordOf 0 0 0 0x30
  | .paintSeparators => wordOf 0 0 0 0x31
  | .paintAlignment => wordOf 0 0 0 0x32
  | .paintTiming => wordOf 0 0 0 0x33
  | .paintDark => wordOf 0 0 0 0x34
  | .reserveFormat => wordOf 0 0 0 0x35
  | .reserveVersion => wordOf 0 0 0 0x36
  | .paintFunctional => wordOf 0 0 0 0x37
  | .walk => wordOf 0 0 0 0x40
  | .paintFormat => wordOf 0 0 0 0x50
  | .paintVersion => wordOf 0 0 0 0x51
  | .generate => wordOf 0 0 0 0x60

/-- The mnemonic of a command (R103, R107). -/
def Instr.mnemonic (i : Instr) : String :=
  match i with
  | .nop => "NOP"
  | .matNew => "MAT_NEW"
  | .matPut _ _ _ _ => "MAT_PUT"
  | .matGet _ _ => "MAT_GET"
  | .gfAdd _ _ => "GF_ADD"
  | .gfMul _ _ => "GF_MUL"
  | .gfExp _ => "GF_EXP"
  | .gfLog _ => "GF_LOG"
  | .rsBlock _ => "RS_BLOCK"
  | .ecPipeline => "EC_PIPELINE"
  | .paintFinders => "PAINT_FINDERS"
  | .paintSeparators => "PAINT_SEPARATORS"
  | .paintAlignment => "PAINT_ALIGNMENT"
  | .paintTiming => "PAINT_TIMING"
  | .paintDark => "PAINT_DARK"
  | .reserveFormat => "RESERVE_FORMAT"
  | .reserveVersion => "RESERVE_VERSION"
  | .paintFunctional => "PAINT_FUNCTIONAL"
  | .walk => "WALK"
  | .paintFormat => "PAINT_FORMAT"
  | .paintVersion => "PAINT_VERSION"
  | .generate => "GENERATE"

/-- The operands of a command in the order the assembler writes them (R107). -/
def Instr.operands (i : Instr) : List Nat :=
  match i with
  | .matPut x y v f => [x, y, v.toNat, f.toNat]
  | .matGet x y => [x, y]
  | .gfAdd a b => [a.toNat, b.toNat]
  | .gfMul a b => [a.toNat, b.toNat]
  | .gfExp n => [n]
  | .gfLog v => [v.toNat]
  | .rsBlock k => [k]
  | .nop | .matNew | .ecPipeline | .paintFinders | .paintSeparators | .paintAlignment | .paintTiming
  | .paintDark | .reserveFormat | .reserveVersion | .paintFunctional | .walk | .paintFormat | .paintVersion
  | .generate => []

/-- What a disassembler shows for a word (R109). -/
inductive Disassembly where
  /-- A mnemonic and its operands. -/
  | command (mnemonic : String) (operands : List Nat)
  /-- `.word 0x<w>`: the word does not decode. -/
  | word (w : Word)
deriving DecidableEq, Repr

/-- Disassembly of a word read back from `CMD` (R109). -/
def disasm (w : Word) : Disassembly :=
  match decode w with
  | .ok i => .command i.mnemonic i.operands
  | .error _ => .word w

/-- The command word that the low `nbits` bits of `w` make, every bit above them 0. -/
def tableWord (nbits w : Nat) : Word := BitVec.ofNat 32 (w % 2 ^ nbits)

/-- The command the decoder reads from an opcode-table word of `nbits` bits. -/
def decodeTableWord (nbits w : Nat) : Option Instr :=
  match decode (tableWord nbits w) with
  | .ok i => some i
  | .error _ => none

end Sys2Proof
end

