-- ==== Sys2Proof/Config.lean ====
section
/-! DEFINITION. What an instance of the block fixes (the open parameter `P_REMAINDER`, R6) and the free values:
constants with no body, one for each value the spec leaves unspecified (93_implementation_defined.md). -/

namespace Sys2Proof

/-- `P_REMAINDER` (R6, R176, U9): what WALK does with a non-functional module reached after the stream is
exhausted. -/
inductive Remainder where
  /-- Write bit 0 through the mask (the default). -/
  | maskedZero
  /-- Leave the module as it was. -/
  | leave
deriving DecidableEq, Repr

/-- The named parameters that an instance of the block fixes (R6). `P_LATENCY` is not a number here: it is the
place of the engine's turn in the schedule `State.turns` (notes/assumptions/1.md). -/
structure Params where
  remainder : Remainder
deriving DecidableEq, Repr

/-- The byte that power-on or reset number `epoch` leaves at bus address `a` of a byte memory or a matrix window,
until something writes it (R236, U3, U4, U7). FREE VALUE: nothing constrains it. -/
opaque Config.unspecifiedByte (epoch a : Nat) : Byte

/-- The word of free bits that response number `n` draws on (R74, R242, U6, U8): the data of a failed read, of a
read of a register the engine may be writing, of a write's response, and of the byte lanes a read does not address.
FREE VALUE. -/
opaque Config.freeWord (n : Nat) : Word

/-- The content of the ROM slot `EXP[255]` (R50, U1), which no command reads. FREE VALUE. -/
opaque Config.expSlot255 : Byte

/-- The sentinel in the ROM slot `LOG[0]` (R50, U2), which no command reads. FREE VALUE. -/
opaque Config.logSlot0 : Byte

end Sys2Proof
end

