-- ==== Sys2Proof/Machine/Memory.lean ====
section
/-! DEFINITION. The three byte memories of the block (R45, R46) as one list of the bytes that something has
written, keyed by bus address (R72), strictly rising. An address that is not listed holds no value of the model's:
what it reads as is `Config.unspecifiedByte` (State.memByte in Machine/Ops.lean). -/

namespace Sys2Proof.Machine

/-- The written bytes of `DATA_IN`, `ECBUF` and `STREAM`, by bus address. -/
abbrev Memory := List Host.Cell

/-- First bus address of `DATA_IN` (R72). -/
def dataInBase : Nat := 0x1000

/-- First bus address of `ECBUF` (R72). -/
def ecbufBase : Nat := 0x2000

/-- First bus address of `STREAM` (R72). -/
def streamBase : Nat := 0x3000

/-- Bytes in each of the three memories, and in each plane window (R6, R72). -/
def memSize : Nat := 4096

/-- The addresses of the three byte memories: 0x1000 to 0x3FFF (R72). -/
def isMemAddr (a : Nat) : Bool := decide (dataInBase ≤ a) && decide (a < streamBase + memSize)

/-- The written byte at `a`; none where nothing has written since reset. -/
def Memory.lookup (m : Memory) (a : Nat) : Option Byte :=
  match m with
  | [] => none
  | c :: rest => if a = c.1 then some c.2 else Memory.lookup rest a

/-- Put a byte at `a` into a rising list. -/
def Memory.insert (m : Memory) (a : Nat) (b : Byte) : Memory :=
  match m with
  | [] => [(a, b)]
  | c :: rest =>
    if a < c.1 then (a, b) :: c :: rest
    else if a = c.1 then (a, b) :: rest
    else c :: Memory.insert rest a b

/-- Write one byte. Only the byte memories hold bytes here: a write elsewhere changes nothing. -/
def Memory.write (m : Memory) (a : Nat) (b : Byte) : Memory :=
  if isMemAddr a then Memory.insert m a b else m

/-- Write consecutive bytes from `a` up, in order. -/
def Memory.writeBytes (m : Memory) (a : Nat) (bs : List Byte) : Memory :=
  match bs with
  | [] => m
  | b :: rest => Memory.writeBytes (Memory.write m a b) (a + 1) rest

/-- Every address of the list is above `a`. -/
def Memory.above (a : Nat) (m : Memory) : Bool := m.all (fun c => decide (a < c.1))

/-- The canonical form: addresses strictly rising, and all in the byte memories. -/
def Memory.wf (m : Memory) : Bool :=
  match m with
  | [] => true
  | c :: rest => isMemAddr c.1 && Memory.above c.1 rest && Memory.wf rest

end Sys2Proof.Machine
end

