-- ==== Sys2Proof/Machine/State.lean ====
section
/-! DEFINITION. The state of the QR core block (R20): its CSRs, byte memories, matrix, engine state and bus, and
the reasons a step can stop. Reserved bits are not stored (R39); the register words are views (Machine/Csr.lean). -/

namespace Sys2Proof.Machine

/-- The causes of a command error (R212). -/
inductive CmdError where
  /-- Code 1: `CFG.VERSION` is not in `[1, 40]`. -/
  | invalidVersion
  /-- Code 2: `CFG.MASK` is not in `[0, 7]`. -/
  | invalidMask
  /-- Code 3: `DATA_LEN.COUNT` is not the table's total. -/
  | payloadLengthMismatch
  /-- Code 4: the word is no command. -/
  | illegalCommand
  /-- Code 5: an operand outside what the command's memory or table holds. -/
  | invalidOperand
  /-- Code 6: `MAT_INFO.VALID = 0`. -/
  | noMatrix
deriving DecidableEq, Repr

/-- `STATUS` (R24). `errcode = none` is code 0; codes 7 to 15 are never written (U11). -/
structure Status where
  busy : Bool
  done : Bool
  err : Bool
  errcode : Option CmdError
  ovr : Bool
deriving DecidableEq, Repr

/-- `CFG` (R25). -/
structure Cfg where
  version : BitVec 6
  ecl : BitVec 2
  mask : BitVec 4
deriving DecidableEq, Repr

/-- `RESULT` (R27). -/
structure Result where
  data : Byte
  valid : Bool
deriving DecidableEq, Repr

/-- `WALK_POS` (R38); `ended` is its `END` bit. -/
structure WalkPos where
  xr : BitVec 9
  y : Byte
  up : Bool
  ended : Bool
deriving DecidableEq, Repr

/-- A symbol version, 1 to 40, by its row in the version tables (R12, R51). -/
structure Version where
  row : Fin 40
deriving DecidableEq, Repr

/-- An error-correction level; the ordinals are L 0, M 1, Q 2, H 3 (R12, R25). -/
inductive EcLevel where
  | l | m | q | h
deriving DecidableEq, Repr

/-- The matrix now held: what MAT_NEW latched into `MAT_INFO` (R30) and the two planes of the matrix RAM (R44).
`MAT_INFO.SIZE` is computed from the version (R144 writes all three fields together; notes/assumptions/8.md). -/
structure QrMatrix where
  version : Version
  value : Plane
  functional : Plane
deriving DecidableEq, Repr

/-- A module, the pair of bits of R10. -/
structure QrModule where
  value : Bool
  functional : Bool
deriving DecidableEq, Repr

/-- The column of a pair that the walk emits to (R43). -/
inductive Column where
  | right | left
deriving DecidableEq, Repr

/-- The walk FSM (R43): `x_right`, `y`, the direction (`up`), the column selector and the stream bit pointer. -/
structure WalkFsm where
  xr : Int
  y : Int
  up : Bool
  col : Column
  bitptr : Nat
deriving DecidableEq, Repr

/-- The phases of GENERATE (R202). -/
inductive Phase where
  | ec | new | paint | walk | format | version
deriving DecidableEq, Repr

/-- The engine's internal state (R42, R43), which the host cannot read and which every command that uses it writes
first. Between commands it holds what the last command's loops left (notes/assumptions/2.md). -/
structure Engine where
  /-- The phase of the last GENERATE (R202). -/
  phase : Option Phase
  /-- The RS working vector `C` (R127). -/
  rsVector : List Byte
  /-- EC_PIPELINE's block counter. -/
  block : Nat
  /-- EC_PIPELINE's column counter. -/
  column : Nat
  /-- The painter's loop counter: how many passes its loops made. -/
  loop : Nat
  walk : WalkFsm
deriving DecidableEq, Repr

/-- A host request on the bus ports (R71). Write data is on byte lanes by address (R75). -/
structure Request where
  write : Bool
  addr : BitVec 16
  size : BitVec 2
  wdata : Word
deriving DecidableEq, Repr

/-- A response on the bus ports (R71): read data on byte lanes by address, and the bus-error bit. -/
structure Response where
  rdata : Word
  err : Bool
deriving DecidableEq, Repr

/-- Who moves next (R70, R235): the host with a transaction, the engine with the completion of the command in
progress (R244), or the reset input. -/
inductive Turn where
  | host (r : Request)
  | engine
  | reset
deriving DecidableEq, Repr

/-- The state of the block. -/
structure State where
  /-- `CMD` (R23). -/
  cmd : Word
  /-- `STATUS` (R24). -/
  status : Status
  /-- `CFG` (R25). -/
  cfg : Cfg
  /-- `ARG0[15:0]` (R26). -/
  arg0 : BitVec 16
  /-- `ARG1[15:0]` (R26). -/
  arg1 : BitVec 16
  /-- `ARG2[15:0]` (R26). -/
  arg2 : BitVec 16
  /-- `RESULT` (R27). -/
  result : Result
  /-- `DATA_LEN.COUNT` (R28). -/
  dataLen : BitVec 13
  /-- `STREAM_LEN.COUNT` (R29). -/
  streamLen : BitVec 13
  /-- `MAT_INFO`, `MATV` and `MATF` (R30, R44); none exactly when `MAT_INFO.VALID = 0`. -/
  matrix : Option QrMatrix
  /-- `WALK_COUNT[15:0]` (R36). -/
  walkCount : BitVec 16
  /-- `WALK_MODS[15:0]` (R37). -/
  walkMods : BitVec 16
  /-- `WALK_POS` (R38). -/
  walkPos : WalkPos
  /-- `DATA_IN`, `ECBUF` and `STREAM` (R45, R46). -/
  mem : Memory
  /-- The engine's internal state (R42, R43). -/
  engine : Engine
  /-- The last response on the bus (R71). -/
  rsp : Option Response
  /-- The turns to come, the next first (R70, R85, R244; notes/assumptions/1.md). The model's own field. -/
  turns : List Turn
  /-- How many resets have been; selects the free values of unwritten bytes (R236). The model's own field. -/
  epoch : Nat
  /-- How many responses have been given; selects their free bits (R242). The model's own field. -/
  draws : Nat
  /-- The open parameter of this instance (R6). -/
  params : Params
deriving DecidableEq, Repr

/-- Why the machine stops. Nothing does: a command error is a next state (R213), a bus error is a response (R78), and
the internal assertions of R227 hold by construction, so this type has no constructor (notes/assumptions/17.md). -/
inductive Fault where
deriving DecidableEq, Repr

/-- Why an instruction has no meaning. -/
inductive Refusal where
  /-- Raised by an arm of `exec` whose instruction has no meaning yet; safe. No arm raises it. -/
  | notModelled (mnemonic : String)
deriving DecidableEq, Repr

/-- The engine's internal state right after reset: unspecified and never read (R236, U5); these values are the
model's (notes/assumptions/2.md). -/
def Engine.reset : Engine :=
  { phase := none, rsVector := [], block := 0, column := 0, loop := 0,
    walk := { xr := 0, y := 0, up := true, col := .right, bitptr := 0 } }

/-- The machine right after reset (R236), with nothing scheduled. -/
def State.reset : State :=
  { cmd := 0
    status := { busy := false, done := false, err := false, errcode := none, ovr := false }
    cfg := { version := 0, ecl := 0, mask := 0 }
    arg0 := 0
    arg1 := 0
    arg2 := 0
    result := { data := 0, valid := false }
    dataLen := 0
    streamLen := 0
    matrix := none
    walkCount := 0
    walkMods := 0
    walkPos := { xr := 0, y := 0, up := false, ended := false }
    mem := []
    engine := Engine.reset
    rsp := none
    turns := []
    epoch := 0
    draws := 0
    params := { remainder := .maskedZero } }

end Sys2Proof.Machine
end

