-- ==== Sys2Proof/Machine/Flags.lean ====
section
/-! DEFINITION. Every computation of a `STATUS` flag (R24, R41): command start (R210), completion (R211), an error
(R212, R213), a dropped write (R241), and the host's write-1-to-clear (R24). -/

namespace Sys2Proof.Machine

/-- The 4-bit code of an error (R212). -/
def CmdError.code (c : CmdError) : BitVec 4 :=
  match c with
  | .invalidVersion => 1
  | .invalidMask => 2
  | .payloadLengthMismatch => 3
  | .illegalCommand => 4
  | .invalidOperand => 5
  | .noMatrix => 6

/-- `STATUS.ERRCODE` (R212): code 0 is "no error". -/
def errcodeField (c : Option CmdError) : BitVec 4 :=
  match c with
  | none => 0
  | some c => c.code

/-- Command start: BUSY 1, DONE, ERR and ERRCODE 0, OVR unchanged (R210). -/
def Status.start (st : Status) : Status :=
  { st with busy := true, done := false, err := false, errcode := none }

/-- Completion without an error: BUSY 0, DONE 1, the rest unchanged (R211). -/
def Status.complete (st : Status) : Status :=
  { st with busy := false, done := true }

/-- Completion with error `c`: BUSY 0, DONE 1, ERR 1, ERRCODE `c` (R211, R213). -/
def Status.raise (st : Status) (c : CmdError) : Status :=
  { st with busy := false, done := true, err := true, errcode := some c }

/-- A host write was dropped because BUSY was 1 (R241). -/
def Status.overrun (st : Status) : Status := { st with ovr := true }

/-- The host acknowledges an error: ERR and ERRCODE clear together (R24, R218). -/
def Status.ackError (st : Status) : Status := { st with err := false, errcode := none }

/-- A host write of `w` to STATUS: a 1 in bit 1, 2 or 8 clears DONE, ERR with ERRCODE, or OVR (R24). -/
def Status.w1c (st : Status) (w : Word) : Status :=
  let st1 := if w.getLsbD 1 then { st with done := false } else st
  let st2 := if w.getLsbD 2 then st1.ackError else st1
  if w.getLsbD 8 then { st2 with ovr := false } else st2

end Sys2Proof.Machine
end

