-- ==== Sys2Proof/Machine/Rom.lean ====
section
/-! DEFINITION. The read-only tables of the block (R48 to R59). The tables are the spec's, value by value. -/

namespace Sys2Proof.Machine

/-- `V`, the number of a version (R12). -/
def Version.num (v : Version) : Nat := v.row.val + 1

/-- `S(V) = 17 + 4·V` (R6, R12). -/
def Version.size (v : Version) : Nat := 17 + 4 * v.num

/-- The version a number names; none outside `[1, 40]` (R25). -/
def versionOf (n : Nat) : Option Version :=
  if h : n - 1 < 40 ∧ n ≠ 0 then some ⟨⟨n - 1, h.1⟩⟩ else none

/-- The ordinal of a level: L 0, M 1, Q 2, H 3 (R12). -/
def EcLevel.ordinal (e : EcLevel) : Nat :=
  match e with
  | .l => 0
  | .m => 1
  | .q => 2
  | .h => 3

/-- The level of an `ECL` field; all four values are legal (R25). -/
def levelOf (e : BitVec 2) : EcLevel :=
  match e.toNat with
  | 0 => .l
  | 1 => .m
  | 2 => .q
  | _ => .h

/-- The `EXP` ROM, row `i[7:4]`, column `i[3:0]` (R50). The last slot is unspecified. -/
def expRows : List (List Byte) :=
  [ [1, 2, 4, 8, 16, 32, 64, 128, 29, 58, 116, 232, 205, 135, 19, 38],
    [76, 152, 45, 90, 180, 117, 234, 201, 143, 3, 6, 12, 24, 48, 96, 192],
    [157, 39, 78, 156, 37, 74, 148, 53, 106, 212, 181, 119, 238, 193, 159, 35],
    [70, 140, 5, 10, 20, 40, 80, 160, 93, 186, 105, 210, 185, 111, 222, 161],
    [95, 190, 97, 194, 153, 47, 94, 188, 101, 202, 137, 15, 30, 60, 120, 240],
    [253, 231, 211, 187, 107, 214, 177, 127, 254, 225, 223, 163, 91, 182, 113, 226],
    [217, 175, 67, 134, 17, 34, 68, 136, 13, 26, 52, 104, 208, 189, 103, 206],
    [129, 31, 62, 124, 248, 237, 199, 147, 59, 118, 236, 197, 151, 51, 102, 204],
    [133, 23, 46, 92, 184, 109, 218, 169, 79, 158, 33, 66, 132, 21, 42, 84],
    [168, 77, 154, 41, 82, 164, 85, 170, 73, 146, 57, 114, 228, 213, 183, 115],
    [230, 209, 191, 99, 198, 145, 63, 126, 252, 229, 215, 179, 123, 246, 241, 255],
    [227, 219, 171, 75, 150, 49, 98, 196, 149, 55, 110, 220, 165, 87, 174, 65],
    [130, 25, 50, 100, 200, 141, 7, 14, 28, 56, 112, 224, 221, 167, 83, 166],
    [81, 162, 89, 178, 121, 242, 249, 239, 195, 155, 43, 86, 172, 69, 138, 9],
    [18, 36, 72, 144, 61, 122, 244, 245, 247, 243, 251, 235, 203, 139, 11, 22],
    [44, 88, 176, 125, 250, 233, 207, 131, 27, 54, 108, 216, 173, 71, 142, Config.expSlot255] ]

/-- The `LOG` ROM, row `v[7:4]`, column `v[3:0]` (R50). `LOG[0]` is a sentinel. -/
def logRows : List (List Byte) :=
  [ [Config.logSlot0, 0, 1, 25, 2, 50, 26, 198, 3, 223, 51, 238, 27, 104, 199, 75],
    [4, 100, 224, 14, 52, 141, 239, 129, 28, 193, 105, 248, 200, 8, 76, 113],
    [5, 138, 101, 47, 225, 36, 15, 33, 53, 147, 142, 218, 240, 18, 130, 69],
    [29, 181, 194, 125, 106, 39, 249, 185, 201, 154, 9, 120, 77, 228, 114, 166],
    [6, 191, 139, 98, 102, 221, 48, 253, 226, 152, 37, 179, 16, 145, 34, 136],
    [54, 208, 148, 206, 143, 150, 219, 189, 241, 210, 19, 92, 131, 56, 70, 64],
    [30, 66, 182, 163, 195, 72, 126, 110, 107, 58, 40, 84, 250, 133, 186, 61],
    [202, 94, 155, 159, 10, 21, 121, 43, 78, 212, 229, 172, 115, 243, 167, 87],
    [7, 112, 192, 247, 140, 128, 99, 13, 103, 74, 222, 237, 49, 197, 254, 24],
    [227, 165, 153, 119, 38, 184, 180, 124, 17, 68, 146, 217, 35, 32, 137, 46],
    [55, 63, 209, 91, 149, 188, 207, 205, 144, 135, 151, 178, 220, 252, 190, 97],
    [242, 86, 211, 171, 20, 42, 93, 158, 132, 60, 57, 83, 71, 109, 65, 162],
    [31, 45, 67, 216, 183, 123, 164, 118, 196, 23, 73, 236, 127, 12, 111, 246],
    [108, 161, 59, 82, 41, 157, 85, 170, 251, 96, 134, 177, 187, 204, 62, 90],
    [203, 89, 95, 176, 156, 169, 160, 81, 11, 245, 22, 235, 122, 117, 44, 215],
    [79, 174, 213, 233, 230, 231, 173, 232, 116, 214, 244, 234, 168, 80, 88, 175] ]

/-- `EXP[i]` for a slot `i` in `[0, 255]` (R50). No command forms an index above 254. -/
def expRom (i : Nat) : Byte := (expRows.getD (i / 16) []).getD (i % 16) Config.expSlot255

/-- `LOG[v]` (R50), as the number the index arithmetic needs (R115). -/
def logRom (v : Byte) : Nat := ((logRows.getD (v.toNat / 16) []).getD (v.toNat % 16) Config.logSlot0).toNat

/-- One cell of the EC and block tables: EC codewords per block, and the two groups of blocks (R51, R52). -/
structure BlockSpec where
  ec : Nat
  s1 : Nat
  n1 : Nat
  s2 : Nat
  n2 : Nat
deriving DecidableEq, Repr

/-- A row of the EC and block tables: the four levels of one version (R51, R52). -/
structure BlockRow where
  l : BlockSpec
  m : BlockSpec
  q : BlockSpec
  h : BlockSpec
deriving DecidableEq, Repr

/-- The table's column at an EC level (R51). -/
def BlockRow.at (r : BlockRow) (e : EcLevel) : BlockSpec :=
  match e with
  | .l => r.l
  | .m => r.m
  | .q => r.q
  | .h => r.h

/-- `EC_BYTES_PER_BLOCK` and `DATA_BYTES_PER_BLOCK` for V = 1 to 10 (R51, R52). -/
def blockRows1 : List BlockRow :=
  [ ⟨⟨7, 19, 1, 0, 0⟩, ⟨10, 16, 1, 0, 0⟩, ⟨13, 13, 1, 0, 0⟩, ⟨17, 9, 1, 0, 0⟩⟩,
    ⟨⟨10, 34, 1, 0, 0⟩, ⟨16, 28, 1, 0, 0⟩, ⟨22, 22, 1, 0, 0⟩, ⟨28, 16, 1, 0, 0⟩⟩,
    ⟨⟨15, 55, 1, 0, 0⟩, ⟨26, 44, 1, 0, 0⟩, ⟨18, 17, 2, 0, 0⟩, ⟨22, 13, 2, 0, 0⟩⟩,
    ⟨⟨20, 80, 1, 0, 0⟩, ⟨18, 32, 2, 0, 0⟩, ⟨26, 24, 2, 0, 0⟩, ⟨16, 9, 4, 0, 0⟩⟩,
    ⟨⟨26, 108, 1, 0, 0⟩, ⟨24, 43, 2, 0, 0⟩, ⟨18, 15, 2, 16, 2⟩, ⟨22, 11, 2, 12, 2⟩⟩,
    ⟨⟨18, 68, 2, 0, 0⟩, ⟨16, 27, 4, 0, 0⟩, ⟨24, 19, 4, 0, 0⟩, ⟨28, 15, 4, 0, 0⟩⟩,
    ⟨⟨20, 78, 2, 0, 0⟩, ⟨18, 31, 4, 0, 0⟩, ⟨18, 14, 2, 15, 4⟩, ⟨26, 13, 4, 14, 1⟩⟩,
    ⟨⟨24, 97, 2, 0, 0⟩, ⟨22, 38, 2, 39, 2⟩, ⟨22, 18, 4, 19, 2⟩, ⟨26, 14, 4, 15, 2⟩⟩,
    ⟨⟨30, 116, 2, 0, 0⟩, ⟨22, 36, 3, 37, 2⟩, ⟨20, 16, 4, 17, 4⟩, ⟨24, 12, 4, 13, 4⟩⟩,
    ⟨⟨18, 68, 2, 69, 2⟩, ⟨26, 43, 4, 44, 1⟩, ⟨24, 19, 6, 20, 2⟩, ⟨28, 15, 6, 16, 2⟩⟩ ]

/-- `EC_BYTES_PER_BLOCK` and `DATA_BYTES_PER_BLOCK` for V = 11 to 20 (R51, R52). -/
def blockRows2 : List BlockRow :=
  [ ⟨⟨20, 81, 4, 0, 0⟩, ⟨30, 50, 1, 51, 4⟩, ⟨28, 22, 4, 23, 4⟩, ⟨24, 12, 3, 13, 8⟩⟩,
    ⟨⟨24, 92, 2, 93, 2⟩, ⟨22, 36, 6, 37, 2⟩, ⟨26, 20, 4, 21, 6⟩, ⟨28, 14, 7, 15, 4⟩⟩,
    ⟨⟨26, 107, 4, 0, 0⟩, ⟨22, 37, 8, 38, 1⟩, ⟨24, 20, 8, 21, 4⟩, ⟨22, 11, 12, 12, 4⟩⟩,
    ⟨⟨30, 115, 3, 116, 1⟩, ⟨24, 40, 4, 41, 5⟩, ⟨20, 16, 11, 17, 5⟩, ⟨24, 12, 11, 13, 5⟩⟩,
    ⟨⟨22, 87, 5, 88, 1⟩, ⟨24, 41, 5, 42, 5⟩, ⟨30, 24, 5, 25, 7⟩, ⟨24, 12, 11, 13, 7⟩⟩,
    ⟨⟨24, 98, 5, 99, 1⟩, ⟨28, 45, 7, 46, 3⟩, ⟨24, 19, 15, 20, 2⟩, ⟨30, 15, 3, 16, 13⟩⟩,
    ⟨⟨28, 107, 1, 108, 5⟩, ⟨28, 46, 10, 47, 1⟩, ⟨28, 22, 1, 23, 15⟩, ⟨28, 14, 2, 15, 17⟩⟩,
    ⟨⟨30, 120, 5, 121, 1⟩, ⟨26, 43, 9, 44, 4⟩, ⟨28, 22, 17, 23, 1⟩, ⟨28, 14, 2, 15, 19⟩⟩,
    ⟨⟨28, 113, 3, 114, 4⟩, ⟨26, 44, 3, 45, 11⟩, ⟨26, 21, 17, 22, 4⟩, ⟨26, 13, 9, 14, 16⟩⟩,
    ⟨⟨28, 107, 3, 108, 5⟩, ⟨26, 41, 3, 42, 13⟩, ⟨30, 24, 15, 25, 5⟩, ⟨28, 15, 15, 16, 10⟩⟩ ]

/-- `EC_BYTES_PER_BLOCK` and `DATA_BYTES_PER_BLOCK` for V = 21 to 30 (R51, R52). -/
def blockRows3 : List BlockRow :=
  [ ⟨⟨28, 116, 4, 117, 4⟩, ⟨26, 42, 17, 0, 0⟩, ⟨28, 22, 17, 23, 6⟩, ⟨30, 16, 19, 17, 6⟩⟩,
    ⟨⟨28, 111, 2, 112, 7⟩, ⟨28, 46, 17, 0, 0⟩, ⟨30, 24, 7, 25, 16⟩, ⟨24, 13, 34, 0, 0⟩⟩,
    ⟨⟨30, 121, 4, 122, 5⟩, ⟨28, 47, 4, 48, 14⟩, ⟨30, 24, 11, 25, 14⟩, ⟨30, 15, 16, 16, 14⟩⟩,
    ⟨⟨30, 117, 6, 118, 4⟩, ⟨28, 45, 6, 46, 14⟩, ⟨30, 24, 11, 25, 16⟩, ⟨30, 16, 30, 17, 2⟩⟩,
    ⟨⟨26, 106, 8, 107, 4⟩, ⟨28, 47, 8, 48, 13⟩, ⟨30, 24, 7, 25, 22⟩, ⟨30, 15, 22, 16, 13⟩⟩,
    ⟨⟨28, 114, 10, 115, 2⟩, ⟨28, 46, 19, 47, 4⟩, ⟨28, 22, 28, 23, 6⟩, ⟨30, 16, 33, 17, 4⟩⟩,
    ⟨⟨30, 122, 8, 123, 4⟩, ⟨28, 45, 22, 46, 3⟩, ⟨30, 23, 8, 24, 26⟩, ⟨30, 15, 12, 16, 28⟩⟩,
    ⟨⟨30, 117, 3, 118, 10⟩, ⟨28, 45, 3, 46, 23⟩, ⟨30, 24, 4, 25, 31⟩, ⟨30, 15, 11, 16, 31⟩⟩,
    ⟨⟨30, 116, 7, 117, 7⟩, ⟨28, 45, 21, 46, 7⟩, ⟨30, 23, 1, 24, 37⟩, ⟨30, 15, 19, 16, 26⟩⟩,
    ⟨⟨30, 115, 5, 116, 10⟩, ⟨28, 47, 19, 48, 10⟩, ⟨30, 24, 15, 25, 25⟩, ⟨30, 15, 23, 16, 25⟩⟩ ]

/-- `EC_BYTES_PER_BLOCK` and `DATA_BYTES_PER_BLOCK` for V = 31 to 40 (R51, R52). -/
def blockRows4 : List BlockRow :=
  [ ⟨⟨30, 115, 13, 116, 3⟩, ⟨28, 46, 2, 47, 29⟩, ⟨30, 24, 42, 25, 1⟩, ⟨30, 15, 23, 16, 28⟩⟩,
    ⟨⟨30, 115, 17, 0, 0⟩, ⟨28, 46, 10, 47, 23⟩, ⟨30, 24, 10, 25, 35⟩, ⟨30, 15, 19, 16, 35⟩⟩,
    ⟨⟨30, 115, 17, 116, 1⟩, ⟨28, 46, 14, 47, 21⟩, ⟨30, 24, 29, 25, 19⟩, ⟨30, 15, 11, 16, 46⟩⟩,
    ⟨⟨30, 115, 13, 116, 6⟩, ⟨28, 46, 14, 47, 23⟩, ⟨30, 24, 44, 25, 7⟩, ⟨30, 16, 59, 17, 1⟩⟩,
    ⟨⟨30, 121, 12, 122, 7⟩, ⟨28, 47, 12, 48, 26⟩, ⟨30, 24, 39, 25, 14⟩, ⟨30, 15, 22, 16, 41⟩⟩,
    ⟨⟨30, 121, 6, 122, 14⟩, ⟨28, 47, 6, 48, 34⟩, ⟨30, 24, 46, 25, 10⟩, ⟨30, 15, 2, 16, 64⟩⟩,
    ⟨⟨30, 122, 17, 123, 4⟩, ⟨28, 46, 29, 47, 14⟩, ⟨30, 24, 49, 25, 10⟩, ⟨30, 15, 24, 16, 46⟩⟩,
    ⟨⟨30, 122, 4, 123, 18⟩, ⟨28, 46, 13, 47, 32⟩, ⟨30, 24, 48, 25, 14⟩, ⟨30, 15, 42, 16, 32⟩⟩,
    ⟨⟨30, 117, 20, 118, 4⟩, ⟨28, 47, 40, 48, 7⟩, ⟨30, 24, 43, 25, 22⟩, ⟨30, 15, 10, 16, 67⟩⟩,
    ⟨⟨30, 118, 19, 119, 6⟩, ⟨28, 47, 18, 48, 31⟩, ⟨30, 24, 34, 25, 34⟩, ⟨30, 15, 20, 16, 61⟩⟩ ]

/-- The EC and block tables (R51, R52). -/
def blockRows : List BlockRow := blockRows1 ++ blockRows2 ++ blockRows3 ++ blockRows4

/-- A cell outside the tables; no lookup reaches it. -/
def noBlocks : BlockSpec := ⟨0, 0, 0, 0, 0⟩

/-- `ec(V, e)` and `blocks(V, e)` (R12, R51, R52). -/
def blockSpec (v : Version) (e : EcLevel) : BlockSpec :=
  (blockRows.getD v.row.val ⟨noBlocks, noBlocks, noBlocks, noBlocks⟩).at e

/-- `DATA_TOTAL = s1·n1 + s2·n2` (R53). -/
def BlockSpec.dataTotal (b : BlockSpec) : Nat := b.s1 * b.n1 + b.s2 * b.n2

/-- `NBLK = n1 + n2` (R53). -/
def BlockSpec.blockCount (b : BlockSpec) : Nat := b.n1 + b.n2

/-- `TOTAL_CW = DATA_TOTAL + ec·NBLK` (R53). -/
def BlockSpec.totalCw (b : BlockSpec) : Nat := b.dataTotal + b.ec * b.blockCount

/-- `ALIGNMENT_CENTERS[V]` for V = 1 to 40 (R54). -/
def alignRows : List (List Nat) :=
  [ [],
    [6, 18],
    [6, 22],
    [6, 26],
    [6, 30],
    [6, 34],
    [6, 22, 38],
    [6, 24, 42],
    [6, 26, 46],
    [6, 28, 50],
    [6, 30, 54],
    [6, 32, 58],
    [6, 34, 62],
    [6, 26, 46, 66],
    [6, 26, 48, 70],
    [6, 26, 50, 74],
    [6, 30, 54, 78],
    [6, 30, 56, 82],
    [6, 30, 58, 86],
    [6, 34, 62, 90],
    [6, 28, 50, 72, 94],
    [6, 26, 50, 74, 98],
    [6, 30, 54, 78, 102],
    [6, 28, 54, 80, 106],
    [6, 32, 58, 84, 110],
    [6, 30, 58, 86, 114],
    [6, 34, 62, 90, 118],
    [6, 26, 50, 74, 98, 122],
    [6, 30, 54, 78, 102, 126],
    [6, 26, 52, 78, 104, 130],
    [6, 30, 56, 82, 108, 134],
    [6, 34, 60, 86, 112, 138],
    [6, 30, 58, 86, 114, 142],
    [6, 34, 62, 90, 118, 146],
    [6, 30, 54, 78, 102, 126, 150],
    [6, 24, 50, 76, 102, 128, 154],
    [6, 28, 54, 80, 106, 132, 158],
    [6, 32, 58, 84, 110, 136, 162],
    [6, 26, 54, 82, 110, 138, 166],
    [6, 30, 58, 86, 114, 142, 170] ]

/-- `ALIGN(V)` (R12, R54). -/
def alignCenters (v : Version) : List Nat := alignRows.getD v.row.val []

/-- `GEN[k]` for k = 1 to 17, in log form (R55). -/
def genRows1 : List (List Nat) :=
  [ [0],
    [25, 1],
    [198, 199, 3],
    [75, 249, 78, 6],
    [113, 164, 166, 119, 10],
    [166, 0, 134, 5, 176, 15],
    [87, 229, 146, 149, 238, 102, 21],
    [175, 238, 208, 249, 215, 252, 196, 28],
    [95, 246, 137, 231, 235, 149, 11, 123, 36],
    [251, 67, 46, 61, 118, 70, 64, 94, 32, 45],
    [220, 192, 91, 194, 172, 177, 209, 116, 227, 10, 55],
    [102, 43, 98, 121, 187, 113, 198, 143, 131, 87, 157, 66],
    [74, 152, 176, 100, 86, 100, 106, 104, 130, 218, 206, 140, 78],
    [199, 249, 155, 48, 190, 124, 218, 137, 216, 87, 207, 59, 22, 91],
    [8, 183, 61, 91, 202, 37, 51, 58, 58, 237, 140, 124, 5, 99, 105],
    [120, 104, 107, 109, 102, 161, 76, 3, 91, 191, 147, 169, 182, 194, 225, 120],
    [43, 139, 206, 78, 43, 239, 123, 206, 214, 147, 24, 99, 150, 39, 243, 163, 136] ]

/-- `GEN[k]` for k = 18 to 34, in log form (R55). -/
def genRows2 : List (List Nat) :=
  [ [215, 234, 158, 94, 184, 97, 118, 170, 79, 187, 152, 148, 252, 179, 5, 98, 96, 153],
    [67, 3, 105, 153, 52, 90, 83, 17, 150, 159, 44, 128, 153, 133, 252, 222, 138, 220, 171],
    [17, 60, 79, 50, 61, 163, 26, 187, 202, 180, 221, 225, 83, 239, 156, 164, 212, 212, 188, 190],
    [240, 233, 104, 247, 181, 140, 67, 98, 85, 200, 210, 115, 148, 137, 230, 36, 122, 254, 148, 175, 210],
    [210, 171, 247, 242, 93, 230, 14, 109, 221, 53, 200, 74, 8, 172, 98, 80, 219, 134, 160, 105, 165, 231],
    [171, 102, 146, 91, 49, 103, 65, 17, 193, 150, 14, 25, 183, 248, 94, 164, 224, 192, 1, 78, 56, 147, 253],
    [229, 121, 135, 48, 211, 117, 251, 126, 159, 180, 169, 152, 192, 226, 228, 218, 111, 0, 117, 232, 87, 96,
     227, 21],
    [231, 181, 156, 39, 170, 26, 12, 59, 15, 148, 201, 54, 66, 237, 208, 99, 167, 144, 182, 95, 243, 129, 178,
     252, 45],
    [173, 125, 158, 2, 103, 182, 118, 17, 145, 201, 111, 28, 165, 53, 161, 21, 245, 142, 13, 102, 48, 227, 153,
     145, 218, 70],
    [79, 228, 8, 165, 227, 21, 180, 29, 9, 237, 70, 99, 45, 58, 138, 135, 73, 126, 172, 94, 216, 193, 157, 26,
     17, 149, 96],
    [168, 223, 200, 104, 224, 234, 108, 180, 110, 190, 195, 147, 205, 27, 232, 201, 21, 43, 245, 87, 42, 195,
     212, 119, 242, 37, 9, 123],
    [156, 45, 183, 29, 151, 219, 54, 96, 249, 24, 136, 5, 241, 175, 189, 28, 75, 234, 150, 148, 23, 9, 202, 162,
     68, 250, 140, 24, 151],
    [41, 173, 145, 152, 216, 31, 179, 182, 50, 48, 110, 86, 239, 96, 222, 125, 42, 173, 226, 193, 224, 130, 156,
     37, 251, 216, 238, 40, 192, 180],
    [20, 37, 252, 93, 63, 75, 225, 31, 115, 83, 113, 39, 44, 73, 122, 137, 118, 119, 144, 248, 248, 55, 1, 225,
     105, 123, 183, 117, 187, 200, 210],
    [10, 6, 106, 190, 249, 167, 4, 67, 209, 138, 138, 32, 242, 123, 89, 27, 120, 185, 80, 156, 38, 69, 171, 60,
     28, 222, 80, 52, 254, 185, 220, 241],
    [245, 231, 55, 24, 71, 78, 76, 81, 225, 212, 173, 37, 215, 46, 119, 229, 245, 167, 126, 72, 181, 94, 165,
     210, 98, 125, 159, 184, 169, 232, 185, 231, 18],
    [111, 77, 146, 94, 26, 21, 108, 19, 105, 94, 113, 193, 86, 140, 163, 125, 58, 158, 229, 239, 218, 103, 56,
     70, 114, 61, 183, 129, 167, 13, 98, 62, 129, 51] ]

/-- `GEN[k]` for k = 35 to 51, in log form (R55). -/
def genRows3 : List (List Nat) :=
  [ [7, 94, 143, 81, 247, 127, 202, 202, 194, 125, 146, 29, 138, 162, 153, 65, 105, 122, 116, 238, 26, 36, 216,
     112, 125, 228, 15, 49, 8, 162, 30, 126, 111, 58, 85],
    [200, 183, 98, 16, 172, 31, 246, 234, 60, 152, 115, 0, 167, 152, 113, 248, 238, 107, 18, 63, 218, 37, 87,
     210, 105, 177, 120, 74, 121, 196, 117, 251, 113, 233, 30, 120],
    [154, 75, 141, 180, 61, 165, 104, 232, 46, 227, 96, 178, 92, 135, 57, 162, 120, 194, 212, 174, 252, 183, 42,
     35, 157, 111, 23, 133, 100, 8, 105, 37, 192, 189, 159, 19, 156],
    [159, 34, 38, 228, 230, 59, 243, 95, 49, 218, 176, 164, 20, 65, 45, 111, 39, 81, 49, 118, 113, 222, 193,
     250, 242, 168, 217, 41, 164, 247, 177, 30, 238, 18, 120, 153, 60, 193],
    [81, 216, 174, 47, 200, 150, 59, 156, 89, 143, 89, 166, 183, 170, 152, 21, 165, 177, 113, 132, 234, 5, 154,
     68, 124, 175, 196, 157, 249, 233, 83, 24, 153, 241, 126, 36, 116, 19, 231],
    [59, 116, 79, 161, 252, 98, 128, 205, 128, 161, 247, 57, 163, 56, 235, 106, 53, 26, 187, 174, 226, 104, 170,
     7, 175, 35, 181, 114, 88, 41, 47, 163, 125, 134, 72, 20, 232, 53, 35, 15],
    [132, 167, 52, 139, 184, 223, 149, 92, 250, 18, 83, 33, 127, 109, 194, 7, 211, 242, 109, 66, 86, 169, 87,
     96, 187, 159, 114, 172, 118, 208, 183, 200, 82, 179, 38, 39, 34, 242, 142, 147, 55],
    [250, 103, 221, 230, 25, 18, 137, 231, 0, 3, 58, 242, 221, 191, 110, 84, 230, 8, 188, 106, 96, 147, 15, 131,
     139, 34, 101, 223, 39, 101, 213, 199, 237, 254, 201, 123, 171, 162, 194, 117, 50, 96],
    [96, 67, 3, 245, 217, 215, 33, 65, 240, 109, 144, 63, 21, 131, 38, 101, 153, 128, 55, 31, 237, 3, 94, 160,
     20, 87, 77, 56, 191, 123, 207, 75, 82, 0, 122, 132, 101, 145, 215, 15, 121, 192, 138],
    [190, 7, 61, 121, 71, 246, 69, 55, 168, 188, 89, 243, 191, 25, 72, 123, 9, 145, 14, 247, 1, 238, 44, 78,
     143, 62, 224, 126, 118, 114, 68, 163, 52, 194, 217, 147, 204, 169, 37, 130, 113, 102, 73, 181],
    [6, 172, 72, 250, 18, 171, 171, 162, 229, 187, 239, 4, 187, 11, 37, 228, 102, 72, 102, 22, 33, 73, 95, 99,
     132, 1, 15, 89, 4, 112, 130, 95, 211, 235, 227, 58, 35, 88, 132, 23, 44, 165, 54, 187, 225],
    [112, 94, 88, 112, 253, 224, 202, 115, 187, 99, 89, 5, 54, 113, 129, 44, 58, 16, 135, 216, 169, 211, 36, 1,
     4, 96, 60, 241, 73, 104, 234, 8, 249, 245, 119, 174, 52, 25, 157, 224, 43, 202, 223, 19, 82, 15],
    [76, 164, 229, 92, 79, 168, 219, 110, 104, 21, 220, 74, 19, 199, 195, 100, 93, 191, 43, 213, 72, 56, 138,
     161, 125, 187, 119, 250, 189, 137, 190, 76, 126, 247, 93, 30, 132, 6, 58, 213, 208, 165, 224, 152, 133, 91,
     61],
    [228, 25, 196, 130, 211, 146, 60, 24, 251, 90, 39, 102, 240, 61, 178, 63, 46, 123, 115, 18, 221, 111, 135,
     160, 182, 205, 107, 206, 95, 150, 120, 184, 91, 21, 247, 156, 140, 238, 191, 11, 94, 227, 84, 50, 163, 39,
     34, 108],
    [172, 121, 1, 41, 193, 222, 237, 64, 109, 181, 52, 120, 212, 226, 239, 245, 208, 20, 246, 34, 225, 204, 134,
     101, 125, 206, 69, 138, 250, 0, 77, 58, 143, 185, 220, 254, 210, 190, 112, 88, 91, 57, 90, 109, 5, 13, 181,
     25, 156],
    [232, 125, 157, 161, 164, 9, 118, 46, 209, 99, 203, 193, 35, 3, 209, 111, 195, 242, 203, 225, 46, 13, 32,
     160, 126, 209, 130, 160, 242, 215, 242, 75, 77, 42, 189, 32, 113, 65, 124, 69, 228, 114, 235, 175, 124,
     170, 215, 232, 133, 205],
    [213, 166, 142, 43, 10, 216, 141, 163, 172, 180, 102, 70, 89, 62, 222, 62, 42, 210, 151, 163, 218, 70, 77,
     39, 166, 191, 114, 202, 245, 188, 183, 221, 75, 212, 27, 237, 127, 204, 235, 62, 190, 232, 18, 46, 171, 15,
     98, 247, 66, 163, 0] ]

/-- `GEN[k]` for k = 52 to 68, in log form (R55). -/
def genRows4 : List (List Nat) :=
  [ [116, 50, 86, 186, 50, 220, 251, 89, 192, 46, 86, 127, 124, 19, 184, 233, 151, 215, 22, 14, 59, 145, 37,
     242, 203, 134, 254, 89, 190, 94, 59, 65, 124, 113, 100, 233, 235, 121, 22, 76, 86, 97, 39, 242, 200, 220,
     101, 33, 239, 254, 116, 51],
    [122, 214, 231, 136, 199, 11, 6, 205, 124, 72, 213, 117, 187, 60, 147, 201, 73, 75, 33, 146, 171, 247, 118,
     208, 157, 177, 203, 235, 83, 45, 226, 202, 229, 168, 7, 57, 237, 235, 200, 124, 106, 254, 165, 14, 147, 0,
     57, 42, 31, 178, 213, 173, 103],
    [183, 26, 201, 87, 210, 221, 113, 21, 46, 65, 45, 50, 238, 184, 249, 225, 102, 58, 209, 218, 109, 165, 26,
     95, 184, 192, 52, 245, 35, 254, 238, 175, 172, 79, 123, 25, 122, 43, 120, 108, 215, 80, 128, 201, 235, 8,
     153, 59, 101, 31, 198, 76, 31, 156],
    [38, 197, 123, 167, 16, 87, 178, 238, 227, 97, 148, 247, 26, 90, 228, 182, 236, 197, 47, 249, 36, 213, 54,
     113, 181, 74, 177, 204, 155, 61, 47, 42, 0, 132, 144, 251, 200, 38, 38, 138, 54, 44, 64, 19, 22, 206, 16,
     10, 228, 211, 161, 171, 44, 194, 210],
    [106, 120, 107, 157, 164, 216, 112, 116, 2, 91, 248, 163, 36, 201, 202, 229, 6, 144, 254, 155, 135, 208,
     170, 209, 12, 139, 127, 142, 182, 249, 177, 174, 190, 28, 10, 85, 239, 184, 101, 124, 152, 206, 96, 23,
     163, 61, 27, 196, 247, 151, 154, 202, 207, 20, 61, 10],
    [58, 140, 237, 93, 106, 61, 193, 2, 87, 73, 194, 215, 159, 163, 10, 155, 5, 121, 153, 59, 248, 4, 117, 22,
     60, 177, 144, 44, 72, 228, 62, 1, 19, 170, 113, 158, 25, 175, 199, 139, 90, 1, 210, 7, 119, 154, 89, 159,
     130, 122, 46, 147, 190, 135, 94, 68, 66],
    [82, 116, 26, 247, 66, 27, 62, 107, 252, 182, 200, 185, 235, 55, 251, 242, 210, 144, 154, 237, 176, 141,
     192, 248, 152, 249, 206, 85, 253, 142, 65, 165, 125, 23, 24, 30, 122, 240, 214, 6, 129, 218, 29, 145, 127,
     134, 206, 245, 117, 29, 41, 63, 159, 142, 233, 125, 148, 123],
    [57, 115, 232, 11, 195, 217, 3, 206, 77, 67, 29, 166, 180, 106, 118, 203, 17, 69, 152, 213, 74, 44, 49, 43,
     98, 61, 253, 122, 14, 43, 209, 143, 9, 104, 107, 171, 224, 57, 254, 251, 226, 232, 221, 194, 240, 117, 161,
     82, 178, 246, 178, 33, 50, 86, 215, 239, 180, 180, 181],
    [107, 140, 26, 12, 9, 141, 243, 197, 226, 197, 219, 45, 211, 101, 219, 120, 28, 181, 127, 6, 100, 247, 2,
     205, 198, 57, 115, 219, 101, 109, 160, 82, 37, 38, 238, 49, 160, 209, 121, 86, 11, 124, 30, 181, 84, 25,
     194, 87, 65, 102, 190, 220, 70, 27, 209, 16, 89, 7, 33, 240],
    [161, 244, 105, 115, 64, 9, 221, 236, 16, 145, 148, 34, 144, 186, 13, 20, 254, 246, 38, 35, 202, 72, 4, 212,
     159, 211, 165, 135, 252, 250, 25, 87, 30, 120, 226, 234, 92, 199, 72, 7, 155, 218, 231, 44, 125, 178, 156,
     174, 124, 43, 100, 31, 56, 101, 204, 64, 175, 225, 169, 146, 45],
    [65, 202, 113, 98, 71, 223, 248, 118, 214, 94, 0, 122, 37, 23, 2, 228, 58, 121, 7, 105, 135, 78, 243, 118,
     70, 76, 223, 89, 72, 50, 70, 111, 194, 17, 212, 126, 181, 35, 221, 117, 235, 11, 229, 149, 147, 123, 213,
     40, 115, 6, 200, 100, 26, 246, 182, 218, 127, 215, 36, 186, 110, 106],
    [30, 71, 36, 71, 19, 195, 172, 110, 61, 2, 169, 194, 90, 136, 59, 182, 231, 145, 102, 39, 170, 231, 214, 67,
     196, 207, 53, 112, 246, 90, 90, 121, 183, 146, 74, 77, 38, 89, 22, 231, 55, 56, 242, 112, 217, 110, 123,
     62, 201, 217, 128, 165, 60, 181, 37, 161, 246, 132, 246, 18, 115, 136, 168],
    [45, 51, 175, 9, 7, 158, 159, 49, 68, 119, 92, 123, 177, 204, 187, 254, 200, 78, 141, 149, 119, 26, 127, 53,
     160, 93, 199, 212, 29, 24, 145, 156, 208, 150, 218, 209, 4, 216, 91, 47, 184, 146, 47, 140, 195, 195, 125,
     242, 238, 63, 99, 108, 140, 230, 242, 31, 204, 11, 178, 243, 217, 156, 213, 231],
    [137, 158, 247, 240, 37, 238, 214, 128, 99, 218, 46, 138, 198, 128, 92, 219, 109, 139, 166, 25, 66, 67, 14,
     58, 238, 149, 177, 195, 221, 154, 171, 48, 80, 12, 59, 190, 228, 19, 55, 208, 92, 112, 229, 37, 60, 10, 47,
     81, 0, 192, 37, 171, 175, 147, 128, 73, 166, 61, 149, 12, 24, 95, 70, 113, 40],
    [5, 118, 222, 180, 136, 136, 162, 51, 46, 117, 13, 215, 81, 17, 139, 247, 197, 171, 95, 173, 65, 137, 178,
     68, 111, 95, 101, 41, 72, 214, 169, 197, 95, 7, 44, 154, 77, 111, 236, 40, 121, 143, 63, 87, 80, 253, 240,
     126, 217, 77, 34, 232, 106, 50, 168, 82, 76, 146, 67, 106, 171, 25, 132, 93, 45, 105],
    [191, 172, 113, 86, 7, 166, 246, 185, 155, 250, 98, 113, 89, 86, 214, 225, 156, 190, 58, 33, 144, 67, 179,
     163, 52, 154, 233, 151, 104, 251, 160, 126, 175, 208, 225, 70, 227, 146, 4, 152, 139, 103, 25, 107, 61,
     204, 159, 250, 193, 225, 105, 160, 98, 167, 2, 53, 16, 242, 83, 210, 196, 103, 248, 86, 211, 41, 171],
    [247, 159, 223, 33, 224, 93, 77, 70, 90, 160, 32, 254, 43, 150, 84, 101, 190, 205, 133, 52, 60, 202, 165,
     220, 203, 151, 93, 84, 15, 84, 253, 173, 160, 89, 227, 52, 199, 97, 95, 231, 52, 177, 41, 125, 137, 241,
     166, 225, 118, 2, 54, 32, 82, 215, 175, 198, 43, 238, 235, 27, 101, 184, 127, 3, 5, 8, 163, 238] ]

/-- The generator-polynomial ROM (R55). -/
def genRows : List (List Nat) := genRows1 ++ genRows2 ++ genRows3 ++ genRows4

/-- `GEN[k]` for `k` in `[1, 68]`: the non-leading coefficients as α-exponents, highest degree first (R55). No
command asks for another row (R126, R227). -/
def genRow (k : Nat) : List Nat := genRows.getD (k - 1) []

/-- The format ROM `FMT`, entry `e·8 + m` (R56). -/
def fmtRom : List (BitVec 15) :=
  [ 0x77C4, 0x72F3, 0x7DAA, 0x789D, 0x662F, 0x6318, 0x6C41, 0x6976,
    0x5412, 0x5125, 0x5E7C, 0x5B4B, 0x45F9, 0x40CE, 0x4F97, 0x4AA0,
    0x355F, 0x3068, 0x3F31, 0x3A06, 0x24B4, 0x2183, 0x2EDA, 0x2BED,
    0x1689, 0x13BE, 0x1CE7, 0x19D0, 0x0762, 0x0255, 0x0D0C, 0x083B ]

/-- `FMT[e·8 + m]` (R56, R190). -/
def fmtWord (e : EcLevel) (m : Fin 8) : BitVec 15 := fmtRom.getD (e.ordinal * 8 + m.val) 0

/-- The version ROM `VER`, entry `V − 7` (R57). -/
def verRom : List (BitVec 18) :=
  [ 0x07C94, 0x085BC, 0x09A99, 0x0A4D3, 0x0BBF6, 0x0C762,
    0x0D847, 0x0E60D, 0x0F928, 0x10B78, 0x1145D, 0x12A17,
    0x13532, 0x149A6, 0x15683, 0x168C9, 0x177EC, 0x18EC4,
    0x191E1, 0x1AFAB, 0x1B08E, 0x1CC1A, 0x1D33F, 0x1ED75,
    0x1F250, 0x209D5, 0x216F0, 0x228BA, 0x2379F, 0x24B0B,
    0x2542E, 0x26A64, 0x27541, 0x28C69 ]

/-- `VER[V − 7]` for `V ≥ 7` (R57, R192). -/
def verWord (v : Nat) : BitVec 18 := verRom.getD (v - 7) 0

/-- The finder bitmap `FP`, row by row (R58). -/
def finderRows : List (List Nat) :=
  [ [1, 1, 1, 1, 1, 1, 1],
    [1, 0, 0, 0, 0, 0, 1],
    [1, 0, 1, 1, 1, 0, 1],
    [1, 0, 1, 1, 1, 0, 1],
    [1, 0, 1, 1, 1, 0, 1],
    [1, 0, 0, 0, 0, 0, 1],
    [1, 1, 1, 1, 1, 1, 1] ]

/-- The alignment bitmap `AP`, row by row (R58). -/
def alignBitmapRows : List (List Nat) :=
  [ [1, 1, 1, 1, 1],
    [1, 0, 0, 0, 1],
    [1, 0, 1, 0, 1],
    [1, 0, 0, 0, 1],
    [1, 1, 1, 1, 1] ]

/-- `FP[r][c]` (R58). -/
def finderBit (r c : Nat) : Bool := (finderRows.getD r []).getD c 0 == 1

/-- `AP[r][c]` (R58). -/
def alignBit (r c : Nat) : Bool := (alignBitmapRows.getD r []).getD c 0 == 1

/-- The mask predicate `MASKP(m, x, y)` (R59, R175). -/
def maskP (m : Fin 8) (x y : Nat) : Bool :=
  match m with
  | ⟨0, _⟩ => (x + y) % 2 == 0
  | ⟨1, _⟩ => y % 2 == 0
  | ⟨2, _⟩ => x % 3 == 0
  | ⟨3, _⟩ => (x + y) % 3 == 0
  | ⟨4, _⟩ => (y / 2 + x / 3) % 2 == 0
  | ⟨5, _⟩ => x * y % 2 + x * y % 3 == 0
  | ⟨6, _⟩ => (x * y % 2 + x * y % 3) % 2 == 0
  | ⟨7, _⟩ => ((x + y) % 2 + x * y % 3) % 2 == 0

end Sys2Proof.Machine
end

