-- ==== Sys2Proof/Machine/Csr.lean ====
section
/-! DEFINITION. The control and status registers as 32-bit words (R22 to R39): what a read of each returns, and what
a host write to each stores. Reserved fields read 0 and drop writes (R39). -/

namespace Sys2Proof.Machine

/-- `ID`, "QR" and the revision (R22). -/
def idWord : Word := 0x51520007

/-- `STATUS` as a word (R24). -/
def Status.word (st : Status) : Word :=
  0#23 ++ BitVec.ofBool st.ovr ++ errcodeField st.errcode ++ 0#1 ++ BitVec.ofBool st.err ++ BitVec.ofBool st.done
    ++ BitVec.ofBool st.busy

/-- `CFG` as a word (R25). -/
def Cfg.word (c : Cfg) : Word := 0#12 ++ c.mask ++ 0#6 ++ c.ecl ++ 0#2 ++ c.version

/-- `CFG` after a host write of `w` (R25): any value of each field is stored. -/
def cfgOfWord (w : Word) : Cfg :=
  { version := w.extractLsb' 0 6, ecl := w.extractLsb' 8 2, mask := w.extractLsb' 16 4 }

/-- `RESULT` as a word (R27). -/
def Result.word (r : Result) : Word := 0#23 ++ BitVec.ofBool r.valid ++ r.data

/-- A 16-bit field as a register word (R26, R36, R37). -/
def word16 (v : BitVec 16) : Word := 0#16 ++ v

/-- A 13-bit count as a register word (R28, R29). -/
def word13 (v : BitVec 13) : Word := 0#19 ++ v

/-- `WALK_POS` as a word (R38). -/
def WalkPos.word (p : WalkPos) : Word :=
  0#6 ++ BitVec.ofBool p.ended ++ BitVec.ofBool p.up ++ p.y ++ 0#7 ++ p.xr

/-- `MAT_INFO` as a word: 0 without a matrix, else SIZE, VER and VALID of the matrix held (R30, R144). -/
def matInfoWord (q : Option QrMatrix) : Word :=
  match q with
  | none => 0
  | some q => 0#15 ++ 1#1 ++ 0#2 ++ BitVec.ofNat 6 q.version.num ++ BitVec.ofNat 8 q.version.size

/-- The version `CFG.VERSION` names; none where it is illegal (R25). -/
def Cfg.legalVersion (c : Cfg) : Option Version := versionOf c.version.toNat

/-- The mask index of `CFG.MASK`; none where it is illegal (R25). -/
def Cfg.legalMask (c : Cfg) : Option (Fin 8) :=
  if h : c.mask.toNat < 8 then some ⟨c.mask.toNat, h⟩ else none

/-- The level `CFG.ECL` names (R25). -/
def Cfg.level (c : Cfg) : EcLevel := levelOf c.ecl

/-- `PARAM0`: VALID, N2, N1, EC_SIZE (R31). -/
def param0 (c : Cfg) : Word :=
  match c.legalVersion with
  | none => 0
  | some v =>
    let b := blockSpec v c.level
    1#1 ++ 0#7 ++ BitVec.ofNat 8 b.n2 ++ BitVec.ofNat 8 b.n1 ++ BitVec.ofNat 8 b.ec

/-- `PARAM1`: SIZE, S2, S1 (R32). -/
def param1 (c : Cfg) : Word :=
  match c.legalVersion with
  | none => 0
  | some v =>
    let b := blockSpec v c.level
    0#8 ++ BitVec.ofNat 8 v.size ++ BitVec.ofNat 8 b.s2 ++ BitVec.ofNat 8 b.s1

/-- `PARAM2`: TOTAL_CW, DATA_TOTAL (R33). -/
def param2 (c : Cfg) : Word :=
  match c.legalVersion with
  | none => 0
  | some v =>
    let b := blockSpec v c.level
    BitVec.ofNat 16 b.totalCw ++ BitVec.ofNat 16 b.dataTotal

/-- `PARAM3`: VALID, FORMAT (R34). It does not depend on the version. -/
def param3 (c : Cfg) : Word :=
  match c.legalMask with
  | none => 0
  | some m => 1#1 ++ 0#16 ++ fmtWord c.level m

/-- `PARAM4`: VALID, VERSION_WORD (R35). -/
def param4 (c : Cfg) : Word :=
  if 7 ≤ c.version.toNat ∧ c.version.toNat ≤ 40 then 1#1 ++ 0#13 ++ verWord c.version.toNat else 0

/-- The register at CSR offset `off`, a multiple of 4 (R22). Offsets 0x4C to 0xFC are reserved and read 0 (R39). -/
def State.csr (s : State) (off : Nat) : Word :=
  match off with
  | 0x00 => idWord
  | 0x04 => s.cmd
  | 0x08 => s.status.word
  | 0x0C => s.cfg.word
  | 0x10 => word16 s.arg0
  | 0x14 => word16 s.arg1
  | 0x18 => word16 s.arg2
  | 0x1C => s.result.word
  | 0x20 => word13 s.dataLen
  | 0x24 => word13 s.streamLen
  | 0x28 => matInfoWord s.matrix
  | 0x2C => param0 s.cfg
  | 0x30 => param1 s.cfg
  | 0x34 => param2 s.cfg
  | 0x38 => param3 s.cfg
  | 0x3C => param4 s.cfg
  | 0x40 => word16 s.walkCount
  | 0x44 => word16 s.walkMods
  | 0x48 => s.walkPos.word
  | _ => 0

end Sys2Proof.Machine
end

