-- ==== Sys2Proof/Machine/Matrix.lean ====
section
/-! DEFINITION. The matrix substrate (R140 to R143): `inb`, `get`, `put` and `isfunc` on the two planes. -/

namespace Sys2Proof.Machine

/-- Plane bit `i` (R44). -/
def planeBit (p : Plane) (i : Nat) : Bool := p.getLsbD i

/-- A plane with bit `i` set to `b` (R44). -/
def setPlaneBit (p : Plane) (i : Nat) (b : Bool) : Plane :=
  if b then p ||| (1#32768 <<< i) else p &&& ~~~(1#32768 <<< i)

/-- `S` of a matrix (R30). -/
def QrMatrix.size (q : QrMatrix) : Nat := q.version.size

/-- `inb(x, y)`: `0 ≤ x < S` and `0 ≤ y < S` (R143). -/
def QrMatrix.inb (q : QrMatrix) (x y : Int) : Bool :=
  decide (0 ≤ x) && decide (x < q.size) && decide (0 ≤ y) && decide (y < q.size)

/-- `idx(x, y) = x + S·y` (R9, R44). -/
def QrMatrix.idx (q : QrMatrix) (x y : Int) : Nat := x.toNat + q.size * y.toNat

/-- `get(x, y)`: the module, or none out of bounds (R141). -/
def QrMatrix.get (q : QrMatrix) (x y : Int) : Option QrModule :=
  if q.inb x y then some { value := planeBit q.value (q.idx x y), functional := planeBit q.functional (q.idx x y) }
  else none

/-- `isfunc(x, y)`: false out of bounds (R141). -/
def QrMatrix.isFunc (q : QrMatrix) (x y : Int) : Bool :=
  match q.get x y with
  | none => false
  | some m => m.functional

/-- `put(x, y, v, f)`: both bits in bounds, no effect out of bounds (R142). -/
def QrMatrix.put (q : QrMatrix) (x y : Int) (v f : Bool) : QrMatrix :=
  if q.inb x y then
    { q with value := setPlaneBit q.value (q.idx x y) v, functional := setPlaneBit q.functional (q.idx x y) f }
  else q

/-- `new(version)`: every bit of both planes 0 (R144). -/
def QrMatrix.new (v : Version) : QrMatrix := { version := v, value := 0, functional := 0 }

/-- One painter write: a coordinate and the value put there. -/
structure Stroke where
  x : Int
  y : Int
  v : Bool
deriving DecidableEq, Repr

/-- Paint strokes in order, each functional (R150). -/
def QrMatrix.paint (q : QrMatrix) (strokes : List Stroke) : QrMatrix :=
  strokes.foldl (fun q s => q.put s.x s.y s.v true) q

end Sys2Proof.Machine
end

