-- ==== Sys2Proof/Machine/Ops.lean ====
section
/-! DEFINITION. The operations every meaning shares: the named updates of State, one byte of the block's address
space (R72 to R74), the byte memories (R45, R46), and the lifecycle of a command with its errors (R210 to R213). -/

namespace Sys2Proof.Machine

/-! ## Named updates -/

def State.withCmd (s : State) (w : Word) : State := { s with cmd := w }
def State.withStatus (s : State) (st : Status) : State := { s with status := st }
def State.withCfg (s : State) (c : Cfg) : State := { s with cfg := c }
def State.withArg0 (s : State) (v : BitVec 16) : State := { s with arg0 := v }
def State.withArg1 (s : State) (v : BitVec 16) : State := { s with arg1 := v }
def State.withArg2 (s : State) (v : BitVec 16) : State := { s with arg2 := v }
def State.withResult (s : State) (r : Result) : State := { s with result := r }
def State.withDataLen (s : State) (v : BitVec 13) : State := { s with dataLen := v }
def State.withStreamLen (s : State) (v : BitVec 13) : State := { s with streamLen := v }
def State.withMatrix (s : State) (q : Option QrMatrix) : State := { s with matrix := q }
def State.withWalk (s : State) (count mods : BitVec 16) (pos : WalkPos) : State :=
  { s with walkCount := count, walkMods := mods, walkPos := pos }
def State.withMem (s : State) (m : Memory) : State := { s with mem := m }
def State.withEngine (s : State) (e : Engine) : State := { s with engine := e }
def State.withTurns (s : State) (ts : List Turn) : State := { s with turns := ts }

/-- Give a response on the bus; its free bits are counted (R71, R74). -/
def State.respond (s : State) (r : Response) : State := { s with rsp := some r, draws := s.draws + 1 }

/-! ## One byte of the address space -/

/-- The regions of the address map (R72). -/
inductive Region where
  | csr | dataIn | ecbuf | stream | matv | matf | reserved
deriving DecidableEq, Repr

/-- The region of a bus address (R72). -/
def regionOf (a : Nat) : Region :=
  if a < 0x100 then .csr
  else if a < 0x1000 then .reserved
  else if a < 0x2000 then .dataIn
  else if a < 0x3000 then .ecbuf
  else if a < 0x4000 then .stream
  else if a < 0x5000 then .matv
  else if a < 0x6000 then .matf
  else .reserved

/-- The byte at an address of a byte memory: what was written last, or else the free value that power-on or the last
reset left there (R45, R46, R236). -/
def State.memByte (s : State) (a : Nat) : Byte :=
  match Memory.lookup s.mem a with
  | some b => b
  | none => Config.unspecifiedByte s.epoch a

/-- Byte `i` of a plane: plane bits `8·i` to `8·i + 7`, the lowest in bit 0 (R73). -/
def planeByte (p : Plane) (i : Nat) : Byte := p.extractLsb' (8 * i) 8

/-- The byte of a plane window at `a`: free until MAT_NEW has run (R47, R84). -/
def State.windowByte (s : State) (plane : QrMatrix → Plane) (base a : Nat) : Byte :=
  match s.matrix with
  | some q => planeByte (plane q) (a - base)
  | none => Config.unspecifiedByte s.epoch a

/-- `byte(a)`, the byte the map places at `a` (R72, R74). -/
def State.byteAt (s : State) (a : Nat) : Byte :=
  match regionOf a with
  | .csr => byteOf (s.csr (a / 4 * 4)) (a % 4)
  | .dataIn | .ecbuf | .stream => s.memByte a
  | .matv => s.windowByte QrMatrix.value 0x4000 a
  | .matf => s.windowByte QrMatrix.functional 0x5000 a
  | .reserved => 0

/-! ## The byte memories -/

/-- `n` bytes of a byte memory from `a` up. -/
def State.loadBytes (s : State) (a n : Nat) : List Byte := (List.range n).map (fun i => s.memByte (a + i))

/-- Store bytes to a byte memory from `a` up, in order (R86). -/
def State.storeBytes (s : State) (a : Nat) (bs : List Byte) : State := s.withMem (Memory.writeBytes s.mem a bs)

/-! ## The matrix -/

/-- Change the matrix now held, if there is one. -/
def State.mapMatrix (s : State) (f : QrMatrix → QrMatrix) : State := s.withMatrix (s.matrix.map f)

/-! ## The lifecycle of a command -/

/-- Command start: an accepted write of `w` to CMD (R23, R210). -/
def State.startCommand (s : State) (w : Word) : State := (s.withCmd w).withStatus s.status.start

/-- Completion of a command whose effects are made (R211). -/
def State.complete (s : State) : State := s.withStatus s.status.complete

/-- Taking an exception, the only way the block has: `raise CmdError(c)` ends the command, writes STATUS and changes
nothing else (R211, R213, R217). No state is saved and control goes nowhere. -/
def State.raiseCmdError (s : State) (c : CmdError) : State := s.withStatus (s.status.raise c)

/-- The return from an exception, the only one the block has: the host acknowledges it and nothing is restored
(R218). -/
def State.ackCmdError (s : State) : State := s.withStatus s.status.ackError

/-- Run a command to its end from state `s`: `body` is its checks and effects. An error is precise: what `body` would
have changed is dropped (R213). -/
def runCommand (s : State) (body : Except CmdError State) : Host.Outcome State Fault Refusal :=
  match body with
  | .ok t => .next t.complete
  | .error c => .next (s.raiseCmdError c)

end Sys2Proof.Machine
end

