-- ==== Sys2Proof/Machine/Operands.lean ====
section
/-! DEFINITION. The operands of a command that are not in its word (R102), with the check each makes (R212). They
are read when the engine runs the command; no write can change them after its start (R89, R241). -/

namespace Sys2Proof.Machine

/-- `CFG.VERSION`, or INVALID_VERSION (R212). -/
def State.versionOperand (s : State) : Except CmdError Version :=
  match s.cfg.legalVersion with
  | some v => .ok v
  | none => .error .invalidVersion

/-- `CFG.MASK`, or INVALID_MASK (R212). -/
def State.maskOperand (s : State) : Except CmdError (Fin 8) :=
  match s.cfg.legalMask with
  | some m => .ok m
  | none => .error .invalidMask

/-- The matrix now held, or NO_MATRIX (R140, R212). -/
def State.matrixOperand (s : State) : Except CmdError QrMatrix :=
  match s.matrix with
  | some q => .ok q
  | none => .error .noMatrix

/-- The block structure for `DATA_LEN.COUNT` codewords at `(V, CFG.ECL)`, or PAYLOAD_LENGTH_MISMATCH (R212). -/
def State.payloadOperand (s : State) (v : Version) : Except CmdError BlockSpec :=
  if s.dataLen.toNat = (blockSpec v s.cfg.level).dataTotal then .ok (blockSpec v s.cfg.level)
  else .error .payloadLengthMismatch

/-- A range check: INVALID_OPERAND unless the condition holds (R212). -/
def operandCheck (ok : Bool) : Except CmdError Unit :=
  if ok then .ok () else .error .invalidOperand

end Sys2Proof.Machine
end

