-- ==== Sys2Proof/Machine/Painter.lean ====
section
/-! DEFINITION. The functional-pattern painter (43_painter.md). Each step is a function from matrix to matrix; a
command checks that a matrix exists and applies its steps (R150). -/

namespace Sys2Proof.Machine

/-- The finder at corner `(cx, cy)`, row by row (R151). -/
def finderStrokes (cx cy : Int) : List Stroke :=
  (List.range 7).flatMap (fun (r : Nat) => (List.range 7).map (fun (c : Nat) => ⟨cx + c, cy + r, finderBit r c⟩))

/-- The three finders: top-left, top-right, bottom-left (R151). -/
def findersStrokes (S : Int) : List Stroke :=
  finderStrokes 0 0 ++ finderStrokes (S - 7) 0 ++ finderStrokes 0 (S - 7)

/-- PAINT_FINDERS on a matrix (R151). -/
def paintFinders (q : QrMatrix) : QrMatrix := q.paint (findersStrokes q.size)

/-- The six separator modules of loop pass `i` (R152). -/
def separatorPass (S i : Int) : List Stroke :=
  [⟨i, 7, false⟩, ⟨7, i, false⟩, ⟨S - 8 + i, 7, false⟩, ⟨S - 8, i, false⟩, ⟨i, S - 8, false⟩, ⟨7, S - 8 + i, false⟩]

/-- The separators of the three finders (R152). -/
def separatorStrokes (S : Int) : List Stroke := (List.range 8).flatMap (fun (i : Nat) => separatorPass S i)

/-- PAINT_SEPARATORS on a matrix (R152). -/
def paintSeparators (q : QrMatrix) : QrMatrix := q.paint (separatorStrokes q.size)

/-- The alignment pattern centred at `(cx, cy)` (R153). -/
def alignStrokes (cx cy : Int) : List Stroke :=
  (List.range 5).flatMap (fun (r : Nat) => (List.range 5).map (fun (c : Nat) => ⟨cx - 2 + c, cy - 2 + r, alignBit r c⟩))

/-- The pattern at one centre, unless the centre module is functional (R153). -/
def paintAlignmentAt (q : QrMatrix) (c : Nat × Nat) : QrMatrix :=
  if q.isFunc c.1 c.2 then q else q.paint (alignStrokes c.1 c.2)

/-- The centres of a version: the Cartesian product of its list, `cx` outer (R153). -/
def alignCentersProduct (v : Version) : List (Nat × Nat) :=
  (alignCenters v).flatMap (fun cx => (alignCenters v).map (fun cy => (cx, cy)))

/-- PAINT_ALIGNMENT on a matrix (R153). -/
def paintAlignment (q : QrMatrix) : QrMatrix := (alignCentersProduct q.version).foldl paintAlignmentAt q

/-- A timing module, unless it is functional: dark where the traversing coordinate `i` is even (R154). -/
def paintTimingModule (q : QrMatrix) (x y : Int) (i : Nat) : QrMatrix :=
  if q.isFunc x y then q else q.put x y (i % 2 == 0) true

/-- The two timing modules at traversing coordinate `i`, row 6 then column 6 (R154). -/
def paintTimingAt (q : QrMatrix) (i : Nat) : QrMatrix :=
  paintTimingModule (paintTimingModule q i 6 i) 6 i i

/-- The traversing coordinates `8 … S−9` (R154). -/
def timingRange (S : Nat) : List Nat := (List.range (S - 16)).map (fun j => 8 + j)

/-- PAINT_TIMING on a matrix (R154). -/
def paintTiming (q : QrMatrix) : QrMatrix := (timingRange q.size).foldl paintTimingAt q

/-- PAINT_DARK on a matrix: the module `(8, 4·V + 9)` (R155). -/
def paintDark (q : QrMatrix) : QrMatrix := q.put 8 (4 * (q.version.num : Int) + 9) true true

/-- `FC1`, the format cells around the top-left finder (R156). -/
def formatCells1 : List (Int × Int) :=
  [(0, 8), (1, 8), (2, 8), (3, 8), (4, 8), (5, 8), (7, 8), (8, 8),
   (8, 7), (8, 5), (8, 4), (8, 3), (8, 2), (8, 1), (8, 0)]

/-- `FC2`, the format cells beside the other two finders (R156). -/
def formatCells2 (S : Int) : List (Int × Int) :=
  [(8, S - 1), (8, S - 2), (8, S - 3), (8, S - 4), (8, S - 5), (8, S - 6), (8, S - 7),
   (S - 8, 8), (S - 7, 8), (S - 6, 8), (S - 5, 8), (S - 4, 8), (S - 3, 8), (S - 2, 8), (S - 1, 8)]

/-- RESERVE_FORMAT on a matrix: value 0 in every format cell (R157). -/
def reserveFormat (q : QrMatrix) : QrMatrix :=
  q.paint ((formatCells1 ++ formatCells2 q.size).map (fun c => ⟨c.1, c.2, false⟩))

/-- `VBL[i]`, cell `i` of the bottom-left version block (R158). -/
def versionCellBl (S : Int) (i : Nat) : Int × Int := ((i / 3 : Nat), S - 11 + (i % 3 : Nat))

/-- `VTR[i]`, cell `i` of the top-right version block, the transpose (R158). -/
def versionCellTr (S : Int) (i : Nat) : Int × Int := (S - 11 + (i % 3 : Nat), (i / 3 : Nat))

/-- The strokes that write bit `i` of `bits` to both cells `i`, for `i = 0 … 17` (R158, R192). -/
def versionStrokes (S : Int) (bits : BitVec 18) : List Stroke :=
  (List.range 18).flatMap (fun i =>
    [⟨(versionCellBl S i).1, (versionCellBl S i).2, bits.getLsbD i⟩,
     ⟨(versionCellTr S i).1, (versionCellTr S i).2, bits.getLsbD i⟩])

/-- RESERVE_VERSION on a matrix: value 0 in the version cells, for `V ≥ 7` (R158). -/
def reserveVersion (q : QrMatrix) : QrMatrix :=
  if 7 ≤ q.version.num then q.paint (versionStrokes q.size 0) else q

/-- PAINT_FUNCTIONAL on a matrix: the seven steps in the listed order (R159). -/
def paintFunctional (q : QrMatrix) : QrMatrix :=
  reserveVersion (reserveFormat (paintDark (paintTiming (paintAlignment (paintSeparators (paintFinders q))))))

/-- The passes the version loops make (R158, R192). -/
def versionPasses (q : QrMatrix) : Nat := if 7 ≤ q.version.num then 18 else 0

/-- What a painter command does once it has its matrix `q`: the matrix is painted and the engine's loop counter
moves (R150, R42). -/
def State.paintEffect (s : State) (q : QrMatrix) (paint : QrMatrix → QrMatrix) (passes : Nat) : State :=
  (s.withMatrix (some (paint q))).withEngine { s.engine with loop := passes }

/-- The common form of the painter commands: NO_MATRIX, then the painting (R150). -/
def painterBody (s : State) (paint : QrMatrix → QrMatrix) (passes : QrMatrix → Nat) : Except CmdError State := do
  let q ← s.matrixOperand
  return s.paintEffect q paint (passes q)

/-- PAINT_FINDERS (R151). -/
def execPaintFinders (s : State) : Host.Outcome State Fault Refusal :=
  runCommand s (painterBody s paintFinders (fun _ => 147))

/-- PAINT_SEPARATORS (R152). -/
def execPaintSeparators (s : State) : Host.Outcome State Fault Refusal :=
  runCommand s (painterBody s paintSeparators (fun _ => 8))

/-- PAINT_ALIGNMENT (R153). -/
def execPaintAlignment (s : State) : Host.Outcome State Fault Refusal :=
  runCommand s (painterBody s paintAlignment (fun q => (alignCentersProduct q.version).length))

/-- PAINT_TIMING (R154). -/
def execPaintTiming (s : State) : Host.Outcome State Fault Refusal :=
  runCommand s (painterBody s paintTiming (fun q => (timingRange q.size).length))

/-- PAINT_DARK (R155). -/
def execPaintDark (s : State) : Host.Outcome State Fault Refusal :=
  runCommand s (painterBody s paintDark (fun _ => 1))

/-- RESERVE_FORMAT (R157). -/
def execReserveFormat (s : State) : Host.Outcome State Fault Refusal :=
  runCommand s (painterBody s reserveFormat (fun _ => 30))

/-- RESERVE_VERSION (R158). -/
def execReserveVersion (s : State) : Host.Outcome State Fault Refusal :=
  runCommand s (painterBody s reserveVersion versionPasses)

/-- PAINT_FUNCTIONAL (R159). -/
def execPaintFunctional (s : State) : Host.Outcome State Fault Refusal :=
  runCommand s (painterBody s paintFunctional versionPasses)

end Sys2Proof.Machine
end

