-- ==== Sys2Proof/Machine/Info.lean ====
section
/-! DEFINITION. The format and version information commands (45_info.md): PAINT_FORMAT and PAINT_VERSION. -/

namespace Sys2Proof.Machine

/-- The strokes of PAINT_FORMAT: cell `k` of both copies gets bit `14 − k` of the word (R190, R191). -/
def formatStrokes (S : Int) (w : BitVec 15) : List Stroke :=
  ((formatCells1.zip (formatCells2 S)).zipIdx).flatMap (fun c =>
    [⟨c.1.1.1, c.1.1.2, w.getLsbD (14 - c.2)⟩, ⟨c.1.2.1, c.1.2.2, w.getLsbD (14 - c.2)⟩])

/-- PAINT_FORMAT on a matrix (R190). -/
def paintFormat (e : EcLevel) (m : Fin 8) (q : QrMatrix) : QrMatrix := q.paint (formatStrokes q.size (fmtWord e m))

/-- The checks and effects of PAINT_FORMAT (R190). -/
def paintFormatBody (s : State) : Except CmdError State := do
  let m ← s.maskOperand
  let q ← s.matrixOperand
  return s.paintEffect q (paintFormat s.cfg.level m) 15

/-- PAINT_FORMAT (R190). -/
def execPaintFormat (s : State) : Host.Outcome State Fault Refusal := runCommand s (paintFormatBody s)

/-- PAINT_VERSION on a matrix: both blocks carry the matrix's own version word, for `V ≥ 7` (R192). -/
def paintVersion (q : QrMatrix) : QrMatrix :=
  if 7 ≤ q.version.num then q.paint (versionStrokes q.size (verWord q.version.num)) else q

/-- PAINT_VERSION (R192). -/
def execPaintVersion (s : State) : Host.Outcome State Fault Refusal :=
  runCommand s (painterBody s paintVersion versionPasses)

end Sys2Proof.Machine
end

