-- ==== Sys2Proof/Machine/MatrixCmd.lean ====
section
/-! DEFINITION. The matrix substrate commands (42_matrix.md): MAT_NEW, MAT_PUT, MAT_GET. -/

namespace Sys2Proof.Machine

/-- The effects of MAT_NEW after its check: both planes cleared and MAT_INFO latched (R144). -/
def State.matNewEffect (s : State) (v : Version) : State := s.withMatrix (some (QrMatrix.new v))

/-- The checks and effects of MAT_NEW (R144). -/
def matNewBody (s : State) : Except CmdError State := do
  let v ← s.versionOperand
  return s.matNewEffect v

/-- MAT_NEW (R144). -/
def execMatNew (s : State) : Host.Outcome State Fault Refusal := runCommand s (matNewBody s)

/-- The checks and effects of MAT_PUT (R145). -/
def matPutBody (x y : Nat) (v f : Bool) (s : State) : Except CmdError State := do
  let q ← s.matrixOperand
  return s.withMatrix (some (q.put x y v f))

/-- MAT_PUT (R145). -/
def execMatPut (x y : Nat) (v f : Bool) (s : State) : Host.Outcome State Fault Refusal :=
  runCommand s (matPutBody x y v f s)

/-- What MAT_GET writes to RESULT: `{functional, value}` with VALID = 1, or 0 with VALID = 0 out of bounds (R27,
R146). -/
def moduleResult (m : Option QrModule) : Result :=
  match m with
  | none => { data := 0, valid := false }
  | some m => { data := 0#6 ++ BitVec.ofBool m.functional ++ BitVec.ofBool m.value, valid := true }

/-- The checks and effects of MAT_GET (R146). -/
def matGetBody (x y : Nat) (s : State) : Except CmdError State := do
  let q ← s.matrixOperand
  return s.withResult (moduleResult (q.get x y))

/-- MAT_GET (R146). -/
def execMatGet (x y : Nat) (s : State) : Host.Outcome State Fault Refusal := runCommand s (matGetBody x y s)

end Sys2Proof.Machine
end

