-- ==== Sys2Proof/Machine/Rs.lean ====
section
/-! DEFINITION. The Reed–Solomon remainder and the EC pipeline (41_rs_ec.md): RS_BLOCK and EC_PIPELINE. -/

namespace Sys2Proof.Machine

/-- The inner loop of `RSREM`: `C[i+1+j] ^ EXP[mod(G[j] + lead_log, 255)]` for every `j` (R127). -/
def xorScaled (lead : Nat) (g : List Nat) (c : List Byte) : List Byte :=
  match g, c with
  | gj :: gs, cj :: cs => (cj ^^^ expRom ((gj + lead) % 255)) :: xorScaled lead gs cs
  | [], cs => cs
  | _ :: _, [] => []

/-- One step of `RSREM` with leading coefficient `lead`; a zero coefficient is skipped (R127). -/
def rsStep (g : List Nat) (lead : Byte) (rest : List Byte) : List Byte :=
  if lead = 0 then rest else xorScaled (logRom lead) g rest

/-- `n` steps of `RSREM` on the working vector; a coefficient stays as it was when its step read it (R127). -/
def rsDivide (g : List Nat) (n : Nat) (c : List Byte) : List Byte :=
  match n, c with
  | n + 1, c0 :: rest => c0 :: rsDivide g n (rsStep g c0 rest)
  | 0, c => c
  | _ + 1, [] => []

/-- The working vector `C` after all steps, from `B ++ [0] * k` (R127). -/
def rsWorking (b : List Byte) (k : Nat) : List Byte :=
  rsDivide (genRow k) b.length (b ++ List.replicate k 0)

/-- `RSREM(B, k) = C[n..n+k−1]` (R127). -/
def rsRem (b : List Byte) (k : Nat) : List Byte := (rsWorking b k).drop b.length

/-- The checks and effects of RS_BLOCK (R126). -/
def rsBlockBody (k : Nat) (s : State) : Except CmdError State := do
  operandCheck (decide (k ≠ 0) && decide (k ≤ 68))
  operandCheck (decide (s.arg0.toNat + s.arg1.toNat ≤ memSize))
  operandCheck (decide (s.arg2.toNat + k ≤ memSize))
  let b := s.loadBytes (dataInBase + s.arg0.toNat) s.arg1.toNat
  return (s.storeBytes (ecbufBase + s.arg2.toNat) (rsRem b k)).withEngine { s.engine with rsVector := rsWorking b k }

/-- RS_BLOCK (R126). -/
def execRsBlock (k : Nat) (s : State) : Host.Outcome State Fault Refusal := runCommand s (rsBlockBody k s)

/-- `SPLIT`: `n1` blocks of `s1` codewords of `DATA_IN`, then `n2` blocks of `s2` (R131). -/
def State.splitBlocks (s : State) (b : BlockSpec) : List (List Byte) :=
  (List.range b.n1).map (fun t => s.loadBytes (dataInBase + t * b.s1) b.s1)
    ++ (List.range b.n2).map (fun u => s.loadBytes (dataInBase + b.n1 * b.s1 + u * b.s2) b.s2)

/-- The length of the longest block (R129). -/
def maxLength (blocks : List (List Byte)) : Nat := blocks.foldl (fun n b => max n b.length) 0

/-- Column `c` of the blocks: codeword `c` of each block that has one, in block order (R129). -/
def blockColumn (blocks : List (List Byte)) (c : Nat) : List Byte := blocks.filterMap (fun b => b[c]?)

/-- `INTERLEAVE(blocks)`: the columns one after another (R129). -/
def interleave (blocks : List (List Byte)) : List Byte :=
  (List.range (maxLength blocks)).flatMap (blockColumn blocks)

/-- EC block `t` goes to `ECBUF[t·ec …]` (R132). -/
def State.storeEcBlocks (s : State) (ec t : Nat) (blocks : List (List Byte)) : State :=
  match blocks with
  | [] => s
  | e :: rest => State.storeEcBlocks (s.storeBytes (ecbufBase + t * ec) e) ec (t + 1) rest

/-- The engine's counters and working vector after an EC_PIPELINE over these blocks (R42). -/
def Engine.afterEc (e : Engine) (b : BlockSpec) (blocks : List (List Byte)) : Engine :=
  { e with rsVector := (blocks.getLast?.map (fun blk => rsWorking blk b.ec)).getD e.rsVector,
           block := blocks.length, column := maxLength blocks }

/-- The stream EC_PIPELINE writes: the data blocks interleaved, then the EC blocks interleaved (R130, R133). -/
def codewordStream (blocks : List (List Byte)) (ec : Nat) : List Byte :=
  interleave blocks ++ interleave (blocks.map (fun blk => rsRem blk ec))

/-- The effects of EC_PIPELINE after its checks (R130). -/
def State.ecPipelineEffect (s : State) (b : BlockSpec) : State :=
  let blocks := s.splitBlocks b
  let out := codewordStream blocks b.ec
  let stored := (s.storeEcBlocks b.ec 0 (blocks.map (fun blk => rsRem blk b.ec))).storeBytes streamBase out
  (stored.withStreamLen (BitVec.ofNat 13 out.length)).withEngine (s.engine.afterEc b blocks)

/-- The checks and effects of EC_PIPELINE (R130). -/
def ecPipelineBody (s : State) : Except CmdError State := do
  let v ← s.versionOperand
  let b ← s.payloadOperand v
  return s.ecPipelineEffect b

/-- EC_PIPELINE (R130). -/
def execEcPipeline (s : State) : Host.Outcome State Fault Refusal := runCommand s (ecPipelineBody s)

end Sys2Proof.Machine
end

