-- ==== Sys2Proof/Machine/Walk.lean ====
section
/-! DEFINITION. The data-placement walk (44_walk.md): its FSM, the visit action, and WALK. -/

namespace Sys2Proof.Machine

/-- What a walk reads and does not change: the mask index, the stream's codewords and `P_REMAINDER` (R171, R176). -/
structure WalkInput where
  mask : Fin 8
  stream : List Byte
  remainder : Remainder
deriving DecidableEq, Repr

/-- A walk in progress: the FSM, the matrix, and the count of modules written (R172). -/
structure WalkRun where
  fsm : WalkFsm
  matrix : QrMatrix
  mods : Nat
deriving DecidableEq, Repr

/-- Stream bit `j`: the codewords in order, each from its most significant bit (R173). -/
def streamBit (stream : List Byte) (j : Nat) : Bool := (stream.getD (j / 8) 0).getLsbD (7 - j % 8)

/-- The FSM at the start of every walk (R172). -/
def WalkFsm.start (S : Int) : WalkFsm := { xr := S - 1, y := S - 1, up := true, col := .right, bitptr := 0 }

/-- The move to the next row of the pair, or to the next pair in the same row, reversing; column 6 is skipped
(R174). -/
def WalkFsm.advance (S : Int) (f : WalkFsm) : WalkFsm :=
  let ny := if f.up then f.y - 1 else f.y + 1
  if 0 ≤ ny ∧ ny < S then { f with y := ny, col := .right }
  else { f with up := !f.up, xr := if f.xr - 2 = 6 then 5 else f.xr - 2, col := .right }

/-- Put bit `b`, masked, into a module that stays non-functional, and count it (R175, R176). -/
def WalkRun.place (i : WalkInput) (r : WalkRun) (x y : Int) (b : Bool) : WalkRun :=
  { r with matrix := r.matrix.put x y (xor b (maskP i.mask x.toNat y.toNat)) false, mods := r.mods + 1 }

/-- `VISIT(x, y)`: skip a functional module; place the next stream bit; after the last one the module is a remainder
module (R176). -/
def WalkRun.visit (i : WalkInput) (r : WalkRun) (x y : Int) : WalkRun :=
  if r.matrix.isFunc x y then r
  else if r.fsm.bitptr < 8 * i.stream.length then
    let t := r.place i x y (streamBit i.stream r.fsm.bitptr)
    { t with fsm := { t.fsm with bitptr := t.fsm.bitptr + 1 } }
  else
    match i.remainder with
    | .leave => r
    | .maskedZero => r.place i x y false

/-- The column selector moves to the left column of the pair (R43, R174). -/
def WalkRun.left (r : WalkRun) : WalkRun := { r with fsm := { r.fsm with col := .left } }

/-- One row of a pair: the right module, the left module, then the move (R171, R174). -/
def WalkRun.row (i : WalkInput) (r : WalkRun) : WalkRun :=
  let r1 := r.visit i r.fsm.xr r.fsm.y
  let r2 := r1.left.visit i (r1.fsm.xr - 1) r1.fsm.y
  { r2 with fsm := r2.fsm.advance r2.matrix.size }

/-- The walk's loop, `while xr ≥ 1` (R171). It makes `S·(S−1)/2` passes (R177), so `fuel = S·S` never runs out. -/
def WalkRun.loop (i : WalkInput) (fuel : Nat) (r : WalkRun) : WalkRun :=
  match fuel with
  | 0 => r
  | fuel + 1 => if 1 ≤ r.fsm.xr then WalkRun.loop i fuel (r.row i) else r

/-- A whole walk over a matrix (R171, R172). -/
def runWalk (i : WalkInput) (q : QrMatrix) : WalkRun :=
  WalkRun.loop i (q.size * q.size) { fsm := WalkFsm.start q.size, matrix := q, mods := 0 }

/-- `WALK_POS` from the FSM at the end of a walk (R38, R171). -/
def WalkFsm.pos (f : WalkFsm) : WalkPos :=
  { xr := BitVec.ofInt 9 f.xr, y := BitVec.ofInt 8 f.y, up := f.up, ended := true }

/-- What WALK reads from the state: `STREAM[0 … L−1]` with `L = STREAM_LEN.COUNT` (R171). -/
def State.walkInput (s : State) (m : Fin 8) : WalkInput :=
  { mask := m, stream := s.loadBytes streamBase s.streamLen.toNat, remainder := s.params.remainder }

/-- The effects of WALK after its checks, on the matrix `q` (R171, R178). -/
def State.walkEffect (s : State) (m : Fin 8) (q : QrMatrix) : State :=
  let r := runWalk (s.walkInput m) q
  ((s.withMatrix (some r.matrix)).withWalk (BitVec.ofNat 16 r.fsm.bitptr) (BitVec.ofNat 16 r.mods) r.fsm.pos).withEngine
    { s.engine with walk := r.fsm }

/-- The checks and effects of WALK (R171). -/
def walkBody (s : State) : Except CmdError State := do
  let m ← s.maskOperand
  let q ← s.matrixOperand
  operandCheck (decide (s.streamLen.toNat ≤ memSize))
  return s.walkEffect m q

/-- WALK (R171). -/
def execWalk (s : State) : Host.Outcome State Fault Refusal := runCommand s (walkBody s)

end Sys2Proof.Machine
end

