-- ==== Sys2Proof/Machine/Control.lean ====
section
/-! DEFINITION. The control commands (46_control.md): NOP and GENERATE. -/

namespace Sys2Proof.Machine

/-- NOP: the lifecycle and nothing else (R200). -/
def execNop (s : State) : Host.Outcome State Fault Refusal := runCommand s (.ok s)

/-- GENERATE enters a phase (R202, R42). -/
def State.enterPhase (s : State) (p : Phase) : State := s.withEngine { s.engine with phase := some p }

/-- Phases 1 to 3 of GENERATE: EC, NEW and PAINT (R202). -/
def State.generatePrepare (s : State) (v : Version) (b : BlockSpec) : State :=
  let s1 := (s.enterPhase .ec).ecPipelineEffect b
  let s2 := (s1.enterPhase .new).matNewEffect v
  (s2.enterPhase .paint).paintEffect (QrMatrix.new v) paintFunctional (versionPasses (QrMatrix.new v))

/-- Phases 4 to 6 of GENERATE: WALK, FORMAT and VERSION (R202). -/
def State.generateFinish (s : State) (m : Fin 8) (q : QrMatrix) : State :=
  let s4 := (s.enterPhase .walk).walkEffect m q
  let q4 := (runWalk (s.walkInput m) q).matrix
  let s5 := (s4.enterPhase .format).paintEffect q4 (paintFormat s.cfg.level m) 15
  let q5 := paintFormat s.cfg.level m q4
  (s5.enterPhase .version).paintEffect q5 paintVersion (versionPasses q5)

/-- The six phases of GENERATE in order, each on the state the one before left (R202). -/
def State.generateEffect (s : State) (v : Version) (b : BlockSpec) (m : Fin 8) : State :=
  (s.generatePrepare v b).generateFinish m (paintFunctional (QrMatrix.new v))

/-- The checks of GENERATE, all before any effect, and then its phases (R201). -/
def generateBody (s : State) : Except CmdError State := do
  let v ← s.versionOperand
  let m ← s.maskOperand
  let b ← s.payloadOperand v
  return s.generateEffect v b m

/-- GENERATE (R201). -/
def execGenerate (s : State) : Host.Outcome State Fault Refusal := runCommand s (generateBody s)

end Sys2Proof.Machine
end

