-- ==== Sys2Proof/Machine/Gf.lean ====
section
/-! DEFINITION. The GF(256) commands (40_gf.md): GF_ADD, GF_MUL, GF_EXP, GF_LOG. -/

namespace Sys2Proof.Machine

/-- `A ⊕ B`, bitwise XOR (R11, R116). -/
def gfAddByte (a b : Byte) : Byte := a ^^^ b

/-- `A ⊗ B` through the tables; 0 absorbs (R117). -/
def gfMulByte (a b : Byte) : Byte :=
  if a = 0 ∨ b = 0 then 0 else expRom ((logRom a + logRom b) % 255)

/-- A GF command's result: DATA and VALID = 1 (R115). -/
def State.gfResult (s : State) (d : Byte) : State := s.withResult { data := d, valid := true }

/-- GF_ADD (R116). -/
def execGfAdd (a b : Byte) (s : State) : Host.Outcome State Fault Refusal :=
  runCommand s (.ok (s.gfResult (gfAddByte a b)))

/-- GF_MUL (R117). -/
def execGfMul (a b : Byte) (s : State) : Host.Outcome State Fault Refusal :=
  runCommand s (.ok (s.gfResult (gfMulByte a b)))

/-- GF_EXP: `EXP` is defined for exponents in `[0, 255)` only (R121). -/
def gfExpBody (i : Nat) (s : State) : Except CmdError State := do
  operandCheck (decide (i < 255))
  return s.gfResult (expRom i)

/-- GF_EXP (R121). -/
def execGfExp (i : Nat) (s : State) : Host.Outcome State Fault Refusal := runCommand s (gfExpBody i s)

/-- GF_LOG: `LOG[0]` is a sentinel (R123). -/
def gfLogBody (v : Byte) (s : State) : Except CmdError State := do
  operandCheck (v != 0)
  return s.gfResult (BitVec.ofNat 8 (logRom v))

/-- GF_LOG (R123). -/
def execGfLog (v : Byte) (s : State) : Host.Outcome State Fault Refusal := runCommand s (gfLogBody v s)

end Sys2Proof.Machine
end

