-- ==== Sys2Proof/Machine/Dispatch.lean ====
section
/-! DEFINITION. One arm per command, each a direct call of its meaning. -/

namespace Sys2Proof.Machine

def exec (i : Instr) (s : State) : Host.Outcome State Fault Refusal :=
  match i with
  | .nop => Sys2Proof.Machine.execNop s
  | .matNew => Sys2Proof.Machine.execMatNew s
  | .matPut x y v f => Sys2Proof.Machine.execMatPut x y v f s
  | .matGet x y => Sys2Proof.Machine.execMatGet x y s
  | .gfAdd a b => Sys2Proof.Machine.execGfAdd a b s
  | .gfMul a b => Sys2Proof.Machine.execGfMul a b s
  | .gfExp n => Sys2Proof.Machine.execGfExp n s
  | .gfLog v => Sys2Proof.Machine.execGfLog v s
  | .rsBlock k => Sys2Proof.Machine.execRsBlock k s
  | .ecPipeline => Sys2Proof.Machine.execEcPipeline s
  | .paintFinders => Sys2Proof.Machine.execPaintFinders s
  | .paintSeparators => Sys2Proof.Machine.execPaintSeparators s
  | .paintAlignment => Sys2Proof.Machine.execPaintAlignment s
  | .paintTiming => Sys2Proof.Machine.execPaintTiming s
  | .paintDark => Sys2Proof.Machine.execPaintDark s
  | .reserveFormat => Sys2Proof.Machine.execReserveFormat s
  | .reserveVersion => Sys2Proof.Machine.execReserveVersion s
  | .paintFunctional => Sys2Proof.Machine.execPaintFunctional s
  | .walk => Sys2Proof.Machine.execWalk s
  | .paintFormat => Sys2Proof.Machine.execPaintFormat s
  | .paintVersion => Sys2Proof.Machine.execPaintVersion s
  | .generate => Sys2Proof.Machine.execGenerate s

end Sys2Proof.Machine
end

