-- ==== Sys2Proof/Machine/Bus.lean ====
section
/-! DEFINITION. The host's transactions (20_memory.md): which are bus errors, what a read returns, what a write does,
and both while a command runs (R241, R242). -/

namespace Sys2Proof.Machine

/-- The bytes of a `req_size`; none for the reserved size 3 (R71, R78). -/
def sizeBytes (size : BitVec 2) : Option Nat :=
  match size.toNat with
  | 0 => some 1
  | 1 => some 2
  | 2 => some 4
  | _ => none

/-- An access of `n` bytes at `a` that is no bus error: aligned, and of 4 bytes in the CSR range (R77). -/
def accessLegal (a n : Nat) : Bool := decide (a % n = 0) && (decide (regionOf a ≠ .csr) || decide (n = 4))

/-- The size of a request; none if the request is a bus error (R77, R78). -/
def accessBytes (r : Request) : Option Nat :=
  match sizeBytes r.size with
  | none => none
  | some n => if accessLegal r.addr.toNat n then some n else none

/-- The CSR offsets the engine may write while a command runs: RESULT, STREAM_LEN, MAT_INFO and WALK_* (R242). -/
def engineCsrs : List Nat := [0x1C, 0x24, 0x28, 0x40, 0x44, 0x48]

/-- Reads of `a` return its value also while BUSY = 1 (R242, U6). Reserved ranges and offsets read 0 at all times
(R39, R80; notes/assumptions/6.md). -/
def stableWhileBusy (a : Nat) : Bool :=
  match regionOf a with
  | .csr => !(engineCsrs.contains (a / 4 * 4))
  | .dataIn | .reserved => true
  | .ecbuf | .stream | .matv | .matf => false

/-- Lane `l` of a response: byte `base + l` of the address space if the access of `n` bytes at `a` covers it, else a
free byte (R75; notes/assumptions/7.md). -/
def State.readLane (s : State) (a n l : Nat) : Byte :=
  if a % 4 ≤ l ∧ l < a % 4 + n then s.byteAt (a / 4 * 4 + l) else byteOf (Config.freeWord s.draws) l

/-- The data of a successful read of `n` bytes at `a`, on its lanes (R74, R75). -/
def State.readLanes (s : State) (a n : Nat) : Word :=
  wordOf (s.readLane a n 3) (s.readLane a n 2) (s.readLane a n 1) (s.readLane a n 0)

/-- A host read that is no bus error: its value, or a draw while BUSY of what the engine may be writing (R74, R242). -/
def State.hostRead (s : State) (a n : Nat) : Word :=
  if s.status.busy && !(stableWhileBusy a) then Config.freeWord s.draws else s.readLanes a n

/-- The bytes a write of `n` bytes at `a` takes from its lanes, in address order (R75). -/
def laneBytes (a n : Nat) (wdata : Word) : List Byte := (List.range n).map (fun i => byteOf wdata ((a + i) % 4))

/-- A host write to the CSR at offset `off`, with BUSY = 0 (R22 to R29). Read-only and reserved registers ignore it
(R39). -/
def State.writeCsr (s : State) (off : Nat) (w : Word) : State :=
  match off with
  | 0x04 => s.startCommand w
  | 0x08 => s.withStatus (s.status.w1c w)
  | 0x0C => s.withCfg (cfgOfWord w)
  | 0x10 => s.withArg0 (w.extractLsb' 0 16)
  | 0x14 => s.withArg1 (w.extractLsb' 0 16)
  | 0x18 => s.withArg2 (w.extractLsb' 0 16)
  | 0x20 => s.withDataLen (w.extractLsb' 0 13)
  | 0x24 => s.withStreamLen (w.extractLsb' 0 13)
  | _ => s

/-- A host write with BUSY = 0 that is no bus error: a register, bytes of a memory, or nothing in a plane window or a
reserved range (R74, R79, R80). -/
def State.idleWrite (s : State) (a n : Nat) (wdata : Word) : State :=
  match regionOf a with
  | .csr => s.writeCsr a wdata
  | .dataIn | .ecbuf | .stream => s.storeBytes a (laneBytes a n wdata)
  | .matv | .matf | .reserved => s

/-- A host write with BUSY = 1 that is no bus error: STATUS is written, any other write is dropped and sets OVR
(R241). -/
def State.busyWrite (s : State) (a : Nat) (wdata : Word) : State :=
  if a = 0x08 then s.withStatus (s.status.w1c wdata) else s.withStatus s.status.overrun

/-- A host write that is no bus error (R74, R241). -/
def State.hostWrite (s : State) (a n : Nat) (wdata : Word) : State :=
  if s.status.busy then s.busyWrite a wdata else s.idleWrite a n wdata

/-- One host transaction, request and response (R71, R74). A bus error changes no state (R74, R78); its data, and that
of a write's response, is free (U8; notes/assumptions/7.md). -/
def State.transact (s : State) (r : Request) : State :=
  match accessBytes r with
  | none => s.respond { rdata := Config.freeWord s.draws, err := true }
  | some n =>
    if r.write then
      (s.hostWrite r.addr.toNat n r.wdata).respond { rdata := Config.freeWord s.draws, err := false }
    else s.respond { rdata := s.hostRead r.addr.toNat n, err := false }

/-- The reset input (R235 to R237): every CSR takes its reset value, the engine is idle, and every byte of the
memories and planes is unspecified anew. The instance's parameter, the schedule and the free-value counters go on. -/
def State.hardReset (s : State) : State :=
  { State.reset with turns := s.turns, epoch := s.epoch + 1, draws := s.draws, params := s.params }

end Sys2Proof.Machine
end

