-- ==== Sys2Proof/Machine/Schedule.lean ====
section
/-! DEFINITION. Who moves next (R70, R85, R235, R244), the engine's fetch of the command in progress (R23, R210), and
how a command comes to be in progress. -/

namespace Sys2Proof.Machine

/-- What the next step does, and the state it does it to. -/
inductive Action where
  /-- Nothing to do: the engine is idle (R226). -/
  | idle (s : State)
  /-- The host's next transaction. -/
  | host (r : Request) (s : State)
  /-- The engine ends the command in progress. -/
  | engine (s : State)
  /-- The reset input. -/
  | reset (s : State)
deriving DecidableEq, Repr

/-- The engine's turn: it ends the command in progress, and without one does nothing (R211, R226). -/
def engineAction (s : State) : Action := if s.status.busy then .engine s else .idle s

/-- The next action: the head of the schedule, which is taken off it. With an empty schedule the turn is the engine's,
so a command in progress always ends (R211, R244). -/
def nextAction (s : State) : Action :=
  match s.turns with
  | [] => engineAction s
  | .host r :: ts => .host r (s.withTurns ts)
  | .engine :: ts => engineAction (s.withTurns ts)
  | .reset :: ts => .reset (s.withTurns ts)

/-- The engine decodes the word in `CMD`, which nothing changes while the command runs (R89, R104, R210). -/
def State.fetch (s : State) : Except Illegal Instr := decode s.cmd

/-- A word that decodes to no command ends at once with ILLEGAL_COMMAND (R105). -/
def raiseIllegal (s : State) : Host.Outcome State Fault Refusal := .next (s.raiseCmdError .illegalCommand)

/-- The schedule with the engine's turn first; an empty schedule is the engine's turn already. -/
def engineFirst (ts : List Turn) : List Turn :=
  match ts with
  | [] => []
  | t :: rest => .engine :: t :: rest

/-- `w` has just been accepted as a command and the engine moves next (R23, R210). -/
def State.issue (s : State) (w : Word) : State := (s.startCommand w).withTurns (engineFirst s.turns)

end Sys2Proof.Machine
end

