-- ==== Sys2Proof/Machine/Step.lean ====
section
/-! DEFINITION. One step of the machine: one host transaction, the whole of one command, or a reset (R85, R235). -/

namespace Sys2Proof.Machine

/-- One step (R70, R85, R210, R235, R244). -/
def step (s : State) : Host.Outcome State Fault Refusal :=
  match nextAction s with
  | .idle t => .next t
  | .host r t => .next (t.transact r)
  | .reset t => .next t.hardReset
  | .engine t =>
    match t.fetch with
    | .ok i => exec i t
    | .error _ => raiseIllegal t

/-- `s` with the command word of `nbits` bits just accepted in `CMD`, so that the next step runs it (R23, R210;
notes/assumptions/12.md). -/
def State.withFetchWord (s : State) (nbits w : Nat) : State := s.issue (tableWord nbits w)

end Sys2Proof.Machine
end

