-- ==== Sys2Proof/Machine/Script.lean ====
section
/-! DEFINITION. Host scripts (R108): each line as the turns it schedules. -/

namespace Sys2Proof.Machine

/-- The `req_size` of an access of 1, 2 or 4 bytes; any other number gives the reserved size (R71). -/
def sizeCode (n : Nat) : BitVec 2 := if n = 1 then 0 else if n = 2 then 1 else if n = 4 then 2 else 3

/-- Value `v` on the lanes of an access at `a`: byte `a + i` on lane `(a + i) mod 4` (R75). -/
def onLanes (a : Nat) (v : Word) : Word := v <<< (8 * (a % 4))

/-- The value of an access of `n` bytes at `a` from the data on its lanes (R74, R75). -/
def offLanes (a n : Nat) (d : Word) : Nat := (d >>> (8 * (a % 4))).toNat % 2 ^ (8 * n)

/-- `MemRead(a, n)` (R74). -/
def memRead (a n : Nat) : Request := { write := false, addr := BitVec.ofNat 16 a, size := sizeCode n, wdata := 0 }

/-- `MemWrite(a, n, v)` (R74). -/
def memWrite (a n : Nat) (v : Word) : Request :=
  { write := true, addr := BitVec.ofNat 16 a, size := sizeCode n, wdata := onLanes a v }

/-- A line of a host script (R108). Registers are named by their CSR offset (R22). R244 leaves open when an issued command
completes; a script of the model says it, by `completes` lines and by the polls of a `WAIT` (DESIGN CHOICE,
notes/assumptions/19.md), and every place is some script's. -/
inductive ScriptLine where
  /-- `WR reg, v`. -/
  | wr (reg : Nat) (v : Word)
  /-- `WR32`, `WR16` or `WR8 a, v`, with `n` = 4, 2 or 1. -/
  | wrMem (n a : Nat) (v : Word)
  /-- `RD reg`. -/
  | rd (reg : Nat)
  /-- `RD32`, `RD16` or `RD8 a`, with `n` = 4, 2 or 1. -/
  | rdMem (n a : Nat)
  /-- `ISSUE cmd`. -/
  | issue (i : Instr)
  /-- `WAIT`: `polls` reads of STATUS that see BUSY = 1, then one that sees BUSY = 0. -/
  | wait (polls : Nat)
  /-- `EXEC cmd`: `ISSUE` then `WAIT`. -/
  | exec (i : Instr) (polls : Nat)
  /-- `CLRSTAT`. -/
  | clrStat
  /-- `LOAD region, off, [b0, b1, …]`, with `base` the region's first address. -/
  | load (base off : Nat) (bs : List Byte)
  /-- No line of R108: the command in progress completes here, before the next line's transaction (R244; DESIGN CHOICE,
  notes/assumptions/19.md). A `LOAD` is cut in two where a command completes inside it. -/
  | completes
deriving DecidableEq, Repr

/-- The reads of `WAIT`: the engine's turn falls after `polls` of them (R108, R243, R244); it does nothing where the command
has completed before (notes/assumptions/18.md, 19.md). -/
def waitTurns (polls : Nat) : List Turn :=
  List.replicate polls (.host (memRead 0x08 4)) ++ [.engine, .host (memRead 0x08 4)]

/-- The writes of `LOAD`, one byte each, in order (R108). -/
def loadTurns (a : Nat) (bs : List Byte) : List Turn :=
  match bs with
  | [] => []
  | b :: rest => .host (memWrite a 1 (b.setWidth 32)) :: loadTurns (a + 1) rest

/-- The turns of one script line (R108). -/
def ScriptLine.turns (l : ScriptLine) : List Turn :=
  match l with
  | .wr reg v => [.host (memWrite reg 4 v)]
  | .wrMem n a v => [.host (memWrite a n v)]
  | .rd reg => [.host (memRead reg 4)]
  | .rdMem n a => [.host (memRead a n)]
  | .issue i => [.host (memWrite 0x04 4 (encode i))]
  | .wait polls => waitTurns polls
  | .exec i polls => .host (memWrite 0x04 4 (encode i)) :: waitTurns polls
  | .clrStat => [.host (memWrite 0x08 4 0x106)]
  | .load base off bs => loadTurns (base + off) bs
  | .completes => [.engine]

/-- A script runs its lines in order (R108). `ISSUE c`, `WR r, v`, `WAIT` gives the write that is dropped; with `completes`
after the `ISSUE`, the one that is performed: the two outcomes of TV program P7. -/
def scriptTurns (ls : List ScriptLine) : List Turn := ls.flatMap ScriptLine.turns

end Sys2Proof.Machine
end

