-- ==== Sys2Proof/Safety.lean ====
section
/-! DEFINITION. The terms in which claims about the block are made: its invariant, STATUS after a command, the checks
of each command, modules and painted regions, polynomials over GF(256), the walk's visits, and runs of commands. They are
written from the rules, apart from the meanings of Machine/. -/

namespace Sys2Proof.Machine

/-! ## The invariant -/

/-- ERR is 1 exactly when ERRCODE is not NONE; while BUSY is 1, DONE and ERR are 0 (R24, R210, R211). -/
def Status.consistent (st : Status) : Prop :=
  (st.err = true ↔ st.errcode ≠ none) ∧ (st.busy = true → st.done = false ∧ st.err = false)

/-- The plane bits that belong to no module are 0 (R44, R84). -/
def QrMatrix.tailClear (q : QrMatrix) : Prop :=
  ∀ p, q.size * q.size ≤ p → planeBit q.value p = false ∧ planeBit q.functional p = false

/-- What every step keeps: memory is canonical, STATUS is consistent, and a matrix has nothing past its modules. -/
def State.Inv (s : State) : Prop :=
  Memory.wf s.mem = true ∧ s.status.consistent ∧ ∀ q, s.matrix = some q → q.tailClear

/-! ## STATUS after a command -/

/-- STATUS after a command without an error (R211). -/
def doneStatus (st : Status) : Status := { st with busy := false, done := true }

/-- STATUS after a command that raised `c` (R211, R213). -/
def errorStatus (st : Status) (c : CmdError) : Status :=
  { st with busy := false, done := true, err := true, errcode := some c }

/-- Command `i` in state `s` ends with error `c` and changes STATUS only (R213). -/
def RaisesOnly (i : Instr) (s : State) (c : CmdError) : Prop :=
  exec i s = .next { s with status := errorStatus s.status c }

/-! ## The checks of each command -/

/-- `CFG.VERSION` is not in `[1, 40]` (R212). -/
def versionBad (s : State) : Bool := decide (s.cfg.version.toNat < 1) || decide (40 < s.cfg.version.toNat)

/-- `CFG.MASK` is not in `[0, 7]` (R212). -/
def maskBad (s : State) : Bool := decide (7 < s.cfg.mask.toNat)

/-- `DATA_LEN.COUNT` is not the total of the version and level that `CFG` names (R212). -/
def lengthBad (s : State) : Bool :=
  match versionOf s.cfg.version.toNat with
  | none => true
  | some v => decide (s.dataLen.toNat ≠ (blockSpec v (levelOf s.cfg.ecl)).dataTotal)

/-- `MAT_INFO.VALID = 0` (R212). -/
def matrixMissing (s : State) : Bool := !((matInfoWord s.matrix).getLsbD 16)

/-- The first error of a list of checks, in priority order (R214). -/
def firstError (checks : List (Bool × CmdError)) : Option CmdError :=
  match checks with
  | [] => none
  | (bad, c) :: rest => if bad then some c else firstError rest

/-- The checks of each command in priority order, as the table of R215 lists them. -/
def commandChecks (i : Instr) (s : State) : List (Bool × CmdError) :=
  match i with
  | .nop | .gfAdd _ _ | .gfMul _ _ => []
  | .matNew => [(versionBad s, .invalidVersion)]
  | .matPut _ _ _ _ | .matGet _ _ => [(matrixMissing s, .noMatrix)]
  | .gfExp n => [(decide (255 ≤ n), .invalidOperand)]
  | .gfLog v => [(decide (v = 0), .invalidOperand)]
  | .rsBlock k =>
    [(decide (k < 1) || decide (68 < k), .invalidOperand),
     (decide (4096 < s.arg0.toNat + s.arg1.toNat), .invalidOperand),
     (decide (4096 < s.arg2.toNat + k), .invalidOperand)]
  | .ecPipeline => [(versionBad s, .invalidVersion), (lengthBad s, .payloadLengthMismatch)]
  | .paintFinders | .paintSeparators | .paintAlignment | .paintTiming | .paintDark | .reserveFormat
  | .reserveVersion | .paintFunctional | .paintVersion => [(matrixMissing s, .noMatrix)]
  | .walk =>
    [(maskBad s, .invalidMask), (matrixMissing s, .noMatrix), (decide (4096 < s.streamLen.toNat), .invalidOperand)]
  | .paintFormat => [(maskBad s, .invalidMask), (matrixMissing s, .noMatrix)]
  | .generate =>
    [(versionBad s, .invalidVersion), (maskBad s, .invalidMask), (lengthBad s, .payloadLengthMismatch)]

/-- The error a command reports, if any (R214, R215). -/
def expectedError (i : Instr) (s : State) : Option CmdError := firstError (commandChecks i s)

/-! ## Encodings -/

/-- The mask and match of every row of spec/opcode_table.json, in its order. -/
def opcodeMasks : List (Word × Word) :=
  [ (0xFFFFFFFF, 0x00000000),
    (0xFFFFFFFF, 0x00000001),
    (0xFC0000FF, 0x00000002),
    (0xFF0000FF, 0x00000003),
    (0xFF0000FF, 0x00000010),
    (0xFF0000FF, 0x00000011),
    (0xFFFF00FF, 0x00000012),
    (0xFFFF00FF, 0x00000013),
    (0xFFFF00FF, 0x00000020),
    (0xFFFFFFFF, 0x00000021),
    (0xFFFFFFFF, 0x00000030),
    (0xFFFFFFFF, 0x00000031),
    (0xFFFFFFFF, 0x00000032),
    (0xFFFFFFFF, 0x00000033),
    (0xFFFFFFFF, 0x00000034),
    (0xFFFFFFFF, 0x00000035),
    (0xFFFFFFFF, 0x00000036),
    (0xFFFFFFFF, 0x00000037),
    (0xFFFFFFFF, 0x00000040),
    (0xFFFFFFFF, 0x00000050),
    (0xFFFFFFFF, 0x00000051),
    (0xFFFFFFFF, 0x00000060) ]

/-- The command a word holds, read from its bits as R103 and R104 give them; none is ILLEGAL_COMMAND. -/
def wordCommand (w : Nat) : Option Instr :=
  let a := w / 2 ^ 8 % 256
  let b := w / 2 ^ 16 % 256
  let reserved (lowest : Nat) (i : Instr) : Option Instr := if w / 2 ^ lowest = 0 then some i else none
  match w % 256 with
  | 0x00 => reserved 8 .nop
  | 0x01 => reserved 8 .matNew
  | 0x02 => reserved 26 (.matPut a b (w.testBit 24) (w.testBit 25))
  | 0x03 => reserved 24 (.matGet a b)
  | 0x10 => reserved 24 (.gfAdd (BitVec.ofNat 8 a) (BitVec.ofNat 8 b))
  | 0x11 => reserved 24 (.gfMul (BitVec.ofNat 8 a) (BitVec.ofNat 8 b))
  | 0x12 => reserved 16 (.gfExp a)
  | 0x13 => reserved 16 (.gfLog (BitVec.ofNat 8 a))
  | 0x20 => reserved 16 (.rsBlock a)
  | 0x21 => reserved 8 .ecPipeline
  | 0x30 => reserved 8 .paintFinders
  | 0x31 => reserved 8 .paintSeparators
  | 0x32 => reserved 8 .paintAlignment
  | 0x33 => reserved 8 .paintTiming
  | 0x34 => reserved 8 .paintDark
  | 0x35 => reserved 8 .reserveFormat
  | 0x36 => reserved 8 .reserveVersion
  | 0x37 => reserved 8 .paintFunctional
  | 0x40 => reserved 8 .walk
  | 0x50 => reserved 8 .paintFormat
  | 0x51 => reserved 8 .paintVersion
  | 0x60 => reserved 8 .generate
  | _ => none

/-- The opcodes that R105 lists as illegal. -/
def illegalOpcode (n : Nat) : Prop :=
  (0x04 ≤ n ∧ n ≤ 0x0F) ∨ (0x14 ≤ n ∧ n ≤ 0x1F) ∨ (0x22 ≤ n ∧ n ≤ 0x2F) ∨ (0x38 ≤ n ∧ n ≤ 0x3F) ∨
    (0x41 ≤ n ∧ n ≤ 0x4F) ∨ (0x52 ≤ n ∧ n ≤ 0x5F) ∨ (0x61 ≤ n ∧ n ≤ 0xFF)

/-- The lowest reserved bit of the format of a listed opcode (R96 to R101, R103). -/
def reservedFrom (n : Nat) : Nat :=
  if n = 0x02 then 26
  else if n = 0x03 ∨ n = 0x10 ∨ n = 0x11 then 24
  else if n = 0x12 ∨ n = 0x13 ∨ n = 0x20 then 16
  else 8

/-- A word is illegal: its opcode is, or a reserved bit of its format is 1 (R105). -/
def illegalWord (w : Word) : Prop :=
  illegalOpcode (w.toNat % 256) ∨ w.toNat / 2 ^ reservedFrom (w.toNat % 256) ≠ 0

/-! ## Bus accesses -/

/-- A request of `n` bytes that is aligned and, in the CSR range, 32 bits wide (R77). -/
def legalRequest (r : Request) (n : Nat) : Prop :=
  ((r.size = 0 ∧ n = 1) ∨ (r.size = 1 ∧ n = 2) ∨ (r.size = 2 ∧ n = 4)) ∧ r.addr.toNat % n = 0 ∧
    (r.addr.toNat < 0x100 → n = 4)

/-- The state after a transaction that changes nothing but the response. -/
def responded (s : State) (rdata : Word) (err : Bool) : State :=
  { s with rsp := some { rdata := rdata, err := err }, draws := s.draws + 1 }

/-- The engine moves next: its turn is the head of the schedule, or the schedule is empty. -/
def engineNext (s : State) : Prop := s.turns = [] ∨ ∃ ts, s.turns = .engine :: ts

/-- The number of an error code (R212). -/
def errorNumber (c : Option CmdError) : Nat :=
  match c with
  | none => 0
  | some .invalidVersion => 1
  | some .invalidMask => 2
  | some .payloadLengthMismatch => 3
  | some .illegalCommand => 4
  | some .invalidOperand => 5
  | some .noMatrix => 6

/-- The block structure that `PARAM0` to `PARAM2` show; none when `CFG.VERSION` is illegal (R31). -/
def shownBlocks (s : State) : Option (Version × BlockSpec) :=
  (versionOf s.cfg.version.toNat).map (fun v => (v, blockSpec v (levelOf s.cfg.ecl)))

/-- The value of the register at CSR offset `off`, as the sum of its fields at their places (R22 to R39). -/
def registerValue (s : State) (off : Nat) : Nat :=
  match off with
  | 0x00 => 0x51520007
  | 0x04 => s.cmd.toNat
  | 0x08 => s.status.busy.toNat + 2 * s.status.done.toNat + 4 * s.status.err.toNat
      + 16 * errorNumber s.status.errcode + 256 * s.status.ovr.toNat
  | 0x0C => s.cfg.version.toNat + 2 ^ 8 * s.cfg.ecl.toNat + 2 ^ 16 * s.cfg.mask.toNat
  | 0x10 => s.arg0.toNat
  | 0x14 => s.arg1.toNat
  | 0x18 => s.arg2.toNat
  | 0x1C => s.result.data.toNat + 2 ^ 8 * s.result.valid.toNat
  | 0x20 => s.dataLen.toNat
  | 0x24 => s.streamLen.toNat
  | 0x28 =>
    match s.matrix with
    | none => 0
    | some q => (17 + 4 * q.version.num) + 2 ^ 8 * q.version.num + 2 ^ 16
  | 0x2C =>
    match shownBlocks s with
    | none => 0
    | some p => p.2.ec + 2 ^ 8 * p.2.n1 + 2 ^ 16 * p.2.n2 + 2 ^ 31
  | 0x30 =>
    match shownBlocks s with
    | none => 0
    | some p => p.2.s1 + 2 ^ 8 * p.2.s2 + 2 ^ 16 * (17 + 4 * p.1.num)
  | 0x34 =>
    match shownBlocks s with
    | none => 0
    | some p => (p.2.s1 * p.2.n1 + p.2.s2 * p.2.n2)
        + 2 ^ 16 * (p.2.s1 * p.2.n1 + p.2.s2 * p.2.n2 + p.2.ec * (p.2.n1 + p.2.n2))
  | 0x38 =>
    if s.cfg.mask.toNat ≤ 7 then (fmtRom.getD (s.cfg.ecl.toNat * 8 + s.cfg.mask.toNat) 0).toNat + 2 ^ 31 else 0
  | 0x3C =>
    if 7 ≤ s.cfg.version.toNat ∧ s.cfg.version.toNat ≤ 40 then
      (verRom.getD (s.cfg.version.toNat - 7) 0).toNat + 2 ^ 31
    else 0
  | 0x40 => s.walkCount.toNat
  | 0x44 => s.walkMods.toNat
  | 0x48 => s.walkPos.xr.toNat + 2 ^ 16 * s.walkPos.y.toNat + 2 ^ 24 * s.walkPos.up.toNat
      + 2 ^ 25 * s.walkPos.ended.toNat
  | _ => 0

/-- The registers whose reads return their value also while BUSY is 1 (R242). -/
def steadyRegister (off : Nat) : Prop :=
  off ∈ [0x00, 0x04, 0x08, 0x0C, 0x10, 0x14, 0x18, 0x20, 0x2C, 0x30, 0x34, 0x38, 0x3C]

/-- The addresses R242 lists as unspecified while BUSY is 1: RESULT, STREAM_LEN, MAT_INFO, the WALK registers, `ECBUF`,
`STREAM` and the windows. -/
def unsteadyAddress (a : Nat) : Prop :=
  a ∈ [0x1C, 0x24, 0x28, 0x40, 0x44, 0x48] ∨ (0x2000 ≤ a ∧ a < 0x6000)

/-- The effect of a host write of `w` to the register at `off` while BUSY is 0 (R22 to R29, R39). -/
def registerWritten (s : State) (off : Nat) (w : Nat) : State :=
  match off with
  | 0x04 => { s with cmd := BitVec.ofNat 32 w,
                     status := { s.status with busy := true, done := false, err := false, errcode := none } }
  | 0x08 => { s with status :=
      { s.status with
        done := s.status.done && !(w.testBit 1)
        err := s.status.err && !(w.testBit 2)
        errcode := if w.testBit 2 then none else s.status.errcode
        ovr := s.status.ovr && !(w.testBit 8) } }
  | 0x0C => { s with cfg := { version := BitVec.ofNat 6 w, ecl := BitVec.ofNat 2 (w / 2 ^ 8),
                              mask := BitVec.ofNat 4 (w / 2 ^ 16) } }
  | 0x10 => { s with arg0 := BitVec.ofNat 16 w }
  | 0x14 => { s with arg1 := BitVec.ofNat 16 w }
  | 0x18 => { s with arg2 := BitVec.ofNat 16 w }
  | 0x20 => { s with dataLen := BitVec.ofNat 13 w }
  | 0x24 => { s with streamLen := BitVec.ofNat 13 w }
  | _ => s

/-! ## What each command writes -/

/-- The commands that write `RESULT` (R27). -/
def writesResult (i : Instr) : Bool :=
  match i with
  | .matGet _ _ | .gfAdd _ _ | .gfMul _ _ | .gfExp _ | .gfLog _ => true
  | .nop | .matNew | .matPut _ _ _ _ | .rsBlock _ | .ecPipeline | .paintFinders | .paintSeparators
  | .paintAlignment | .paintTiming | .paintDark | .reserveFormat | .reserveVersion | .paintFunctional | .walk
  | .paintFormat | .paintVersion | .generate => false

/-- The commands that write the matrix (R147; GENERATE runs their bodies, R202). -/
def writesMatrix (i : Instr) : Bool :=
  match i with
  | .matNew | .matPut _ _ _ _ | .paintFinders | .paintSeparators | .paintAlignment | .paintTiming | .paintDark
  | .reserveFormat | .reserveVersion | .paintFunctional | .walk | .paintFormat | .paintVersion | .generate => true
  | .nop | .matGet _ _ | .gfAdd _ _ | .gfMul _ _ | .gfExp _ | .gfLog _ | .rsBlock _ | .ecPipeline => false

/-- A byte of memory that command `i` may write: none of `DATA_IN`, `ECBUF` by RS_BLOCK, `ECBUF` and `STREAM` by
EC_PIPELINE and GENERATE (R45, R46). -/
def mayWriteByte (i : Instr) (a : Nat) : Prop :=
  (i = .ecPipeline ∨ i = .generate) ∧ 0x2000 ≤ a ∧ a < 0x4000 ∨
    (∃ k, i = .rsBlock k) ∧ 0x2000 ≤ a ∧ a < 0x3000

/-! ## GF(256) by its polynomial -/

/-- `a·x` reduced modulo `0x11D` (R49). -/
def timesAlpha (a : Byte) : Byte := if a.getLsbD 7 then (a <<< 1) ^^^ 0x1D else a <<< 1

/-- `αⁱ`, by multiplying 1 by `α` (R50). -/
def alphaPow (i : Nat) : Byte :=
  match i with
  | 0 => 1
  | i + 1 => timesAlpha (alphaPow i)

/-- The carry-less product of `a` and the low `n` bits of `b`, reduced modulo `0x11D` (R118). -/
def polyMul (a b : Byte) (n : Nat) : Byte :=
  match n with
  | 0 => 0
  | n + 1 => polyMul a b n ^^^ (if b.getLsbD n then (timesAlpha^[n]) a else 0)

/-- The value at `x` of the polynomial with these coefficients, highest degree first (R11, R125). -/
def polyEval (c : List Byte) (x : Byte) : Byte := c.foldl (fun acc b => polyMul acc x 8 ^^^ b) 0

/-- The generator `g_k = Π_{i<k} (x − αⁱ)` without its leading 1, highest degree first (R55). -/
def generatorPoly (k : Nat) : List Byte :=
  match k with
  | 0 => []
  | k + 1 =>
    let g := generatorPoly k
    List.zipWith (fun a b => a ^^^ polyMul b (alphaPow k) 8) (g ++ [0]) (1 :: g)

/-- The inner loop of `RSREM` at step `i`, on the working vector `c` (R127). -/
def rsremInner (g : List Nat) (i lead k : Nat) (c : List Byte) : List Byte :=
  (List.range k).foldl
    (fun c j => c.set (i + 1 + j) (c.getD (i + 1 + j) 0 ^^^ expRom ((g.getD j 0 + lead) % 255))) c

/-- `RSREM(B, k)` as its pseudocode runs, on one indexed working vector (R127). -/
def rsremLoop (b : List Byte) (k : Nat) : List Byte :=
  ((List.range b.length).foldl
    (fun c i => if c.getD i 0 = 0 then c else rsremInner (genRow k) i (logRom (c.getD i 0)) k c)
    (b ++ List.replicate k 0)).drop b.length

/-- Data block `t` of a symbol: `DATA_IN[t·s1 …]` in group 1, `DATA_IN[n1·s1 + u·s2 …]` in group 2 (R131). -/
def dataBlock (s : State) (b : BlockSpec) (t : Nat) : List Byte :=
  if t < b.n1 then s.loadBytes (0x1000 + t * b.s1) b.s1
  else s.loadBytes (0x1000 + b.n1 * b.s1 + (t - b.n1) * b.s2) b.s2

/-- The lengths of the data blocks, in block order (R131). -/
def dataLengths (b : BlockSpec) : List Nat := List.replicate b.n1 b.s1 ++ List.replicate b.n2 b.s2

/-- How many blocks of these lengths have a codeword `c`. -/
def countWith (lens : List Nat) (c : Nat) : Nat := (lens.filter (fun n => decide (c < n))).length

/-- Where the interleaved stream of blocks of these lengths holds codeword `c` of block `t`: after every codeword of the
columns before `c`, and after codeword `c` of the blocks before `t` (R129). -/
def interleavePos (lens : List Nat) (t c : Nat) : Nat :=
  ((List.range c).map (countWith lens)).sum + countWith (lens.take t) c

/-- The byte memories of `t` hold what EC_PIPELINE writes from the data of `s`, and elsewhere what `s` holds: the EC
blocks in `ECBUF` (R132), then in `STREAM` the data blocks interleaved and the EC blocks interleaved (R129, R133). -/
def HoldsCodewords (s t : State) (b : BlockSpec) : Prop :=
  (∀ k j, k < b.blockCount → j < b.ec →
    t.memByte (0x2000 + k * b.ec + j) = (rsRem (dataBlock s b k) b.ec).getD j 0) ∧
  (∀ k c, k < b.blockCount → c < (dataBlock s b k).length →
    t.memByte (0x3000 + interleavePos (dataLengths b) k c) = (dataBlock s b k).getD c 0) ∧
  (∀ k j, k < b.blockCount → j < b.ec →
    t.memByte (0x3000 + b.dataTotal + interleavePos (List.replicate b.blockCount b.ec) k j)
      = (rsRem (dataBlock s b k) b.ec).getD j 0) ∧
  (∀ a, ¬(0x2000 ≤ a ∧ a < 0x2000 + b.ec * b.blockCount) → ¬(0x3000 ≤ a ∧ a < 0x3000 + b.totalCw) →
    t.memByte a = s.memByte a)

/-- The remainder of `a` (of degree below `n + deg`) divided by the polynomial `p` of degree `deg` over GF(2) (R56). -/
def gf2Rem (p deg n a : Nat) : Nat :=
  match n with
  | 0 => a
  | n + 1 => gf2Rem p deg n (if a.testBit (n + deg) then a ^^^ (p <<< n) else a)

/-- The EC-level indicator inside a format word: L 01, M 00, Q 11, H 10 (R56). -/
def levelIndicator (e : EcLevel) : Nat :=
  match e with
  | .l => 1
  | .m => 0
  | .q => 3
  | .h => 2

/-! ## Modules and painted regions -/

/-- The number of functional modules. -/
def QrMatrix.functionalCount (q : QrMatrix) : Nat :=
  ((List.range (q.size * q.size)).filter (fun p => planeBit q.functional p)).length

/-- The functional modules after PAINT_FUNCTIONAL on a fresh matrix, V = 1 to 40 (R160). -/
def functionalTable : List Nat :=
  [233, 266, 274, 282, 290, 298, 457, 465, 473, 481, 489, 497, 505, 678,
   686, 694, 702, 710, 718, 726, 949, 957, 965, 973, 981, 989, 997, 1270,
   1278, 1286, 1294, 1302, 1310, 1318, 1641, 1649, 1657, 1665, 1673, 1681]

/-- `RAW(V)` for V = 1 to 40 (R53). -/
def rawTable : List Nat :=
  [208, 359, 567, 807, 1079, 1383, 1568, 1936, 2336, 2768, 3232, 3728, 4256, 4651,
   5243, 5867, 6523, 7211, 7931, 8683, 9252, 10068, 10916, 11796, 12708, 13652, 14628, 15371,
   16411, 17483, 18587, 19723, 20891, 22091, 23008, 24272, 25568, 26896, 28256, 29648]

/-- `RAW(V)` (R53). -/
def Version.raw (v : Version) : Nat := rawTable.getD v.row.val 0

/-- Two matrices of one version agree on every plane bit that belongs to no module (R44). -/
def SameTail (q q' : QrMatrix) : Prop :=
  q'.version = q.version ∧ ∀ p, q.size * q.size ≤ p →
    planeBit q'.value p = planeBit q.value p ∧ planeBit q'.functional p = planeBit q.functional p

/-- Command `i` completes on a matrix `q`, painting exactly the modules for which `paint` gives a value, each
functional, and changing nothing else that the host can see (R150). -/
def PaintsExactly (i : Instr) (s : State) (q : QrMatrix) (paint : Int → Int → Option Bool) : Prop :=
  ∃ q' e, exec i s = .next { s with matrix := some q', engine := e, status := doneStatus s.status } ∧
    SameTail q q' ∧
    ∀ x y, q'.get x y = if q.inb x y = true then
      (match paint x y with
        | some v => some { value := v, functional := true }
        | none => q.get x y) else none

/-- The larger of the distances of `(x, y)` from `(cx, cy)` along the two axes (R58). -/
def ringOf (cx cy x y : Int) : Nat := max (x - cx).natAbs (y - cy).natAbs

/-- A finder's module: dark in the rings 0, 1 and 3 around its centre (R58, R151). -/
def finderAt (cx cy x y : Int) : Option Bool :=
  if ringOf cx cy x y ≤ 3 then some (decide (ringOf cx cy x y ≠ 2)) else none

/-- The finder modules (R151). -/
def finderModule (S x y : Int) : Option Bool :=
  (finderAt 3 3 x y).or ((finderAt (S - 4) 3 x y).or (finderAt 3 (S - 4) x y))

/-- The separator modules, all light: ring 4 around each finder's centre (R152). -/
def separatorModule (S x y : Int) : Option Bool :=
  if ringOf 3 3 x y = 4 ∨ ringOf (S - 4) 3 x y = 4 ∨ ringOf 3 (S - 4) x y = 4 then some false else none

/-- The timing modules: on row 6 and column 6, traversing coordinate 8 to `S−9`, dark where it is even (R154). -/
def timingModule (S x y : Int) : Option Bool :=
  if y = 6 ∧ 8 ≤ x ∧ x ≤ S - 9 then some (decide (x % 2 = 0))
  else if x = 6 ∧ 8 ≤ y ∧ y ≤ S - 9 then some (decide (y % 2 = 0))
  else none

/-- The alignment modules: dark in the rings 0 and 2 around each centre whose own module is not functional in `q`
(R58, R153). -/
def alignmentModule (q : QrMatrix) (x y : Int) : Option Bool :=
  (((alignCenters q.version).product (alignCenters q.version)).find?
    (fun c => !(q.isFunc c.1 c.2) && decide (ringOf c.1 c.2 x y ≤ 2))).map
    (fun c => decide (ringOf c.1 c.2 x y ≠ 1))

/-- The dark module (R155). -/
def darkModule (V x y : Int) : Option Bool := if x = 8 ∧ y = 4 * V + 9 then some true else none

/-- The format bit `k` a cell carries: cells 0 to 14 of copy 1 and of copy 2 (R156, R191). -/
def formatCellIndex (S x y : Int) : Option Nat :=
  if y = 8 ∧ 0 ≤ x ∧ x ≤ 5 then some x.toNat
  else if y = 8 ∧ x = 7 then some 6
  else if y = 8 ∧ x = 8 then some 7
  else if x = 8 ∧ y = 7 then some 8
  else if x = 8 ∧ 0 ≤ y ∧ y ≤ 5 then some (14 - y).toNat
  else if x = 8 ∧ S - 7 ≤ y ∧ y ≤ S - 1 then some (S - 1 - y).toNat
  else if y = 8 ∧ S - 8 ≤ x ∧ x ≤ S - 1 then some (x - (S - 8) + 7).toNat
  else none

/-- The version bit `i` a cell carries: column-major in the bottom-left block, transposed in the top-right (R158,
R193). -/
def versionCellIndex (S x y : Int) : Option Nat :=
  if 0 ≤ x ∧ x ≤ 5 ∧ S - 11 ≤ y ∧ y ≤ S - 9 then some (3 * x + (y - (S - 11))).toNat
  else if 0 ≤ y ∧ y ≤ 5 ∧ S - 11 ≤ x ∧ x ≤ S - 9 then some (3 * y + (x - (S - 11))).toNat
  else none

/-! ## The walk -/

/-- The coordinates to visit, in order, from a position and a direction, for a symbol of size `S` (R172, R174). -/
def visitsFrom (S : Int) (fuel : Nat) (xr y : Int) (up : Bool) : List (Int × Int) :=
  match fuel with
  | 0 => []
  | fuel + 1 =>
    if xr < 1 then []
    else
      let ny := if up then y - 1 else y + 1
      (xr, y) :: (xr - 1, y) ::
        (if 0 ≤ ny ∧ ny < S then visitsFrom S fuel xr ny up
         else visitsFrom S fuel (if xr = 8 then 5 else xr - 2) y (!up))

/-- The visit order of a symbol of size `S` (R174, R180). -/
def visitOrder (S : Nat) : List (Int × Int) := visitsFrom S (S * S) (S - 1) (S - 1) true

/-- The machine's walk before its first visit (R172). -/
def WalkRun.start (q : QrMatrix) : WalkRun := { fsm := WalkFsm.start q.size, matrix := q, mods := 0 }

/-- The coordinates at which the machine's own FSM stands while its loop runs, two in each row (R171, R174). -/
def WalkRun.visited (i : WalkInput) (fuel : Nat) (r : WalkRun) : List (Int × Int) :=
  match fuel with
  | 0 => []
  | fuel + 1 =>
    if 1 ≤ r.fsm.xr then
      (r.fsm.xr, r.fsm.y) :: (r.fsm.xr - 1, r.fsm.y) :: WalkRun.visited i fuel (r.row i)
    else []

/-- `VISIT` at each of these coordinates in turn, with nothing between (R176). -/
def WalkRun.visitAll (i : WalkInput) (r : WalkRun) (cs : List (Int × Int)) : WalkRun :=
  cs.foldl (fun r c => r.visit i c.1 c.2) r

/-- The non-functional modules of a matrix in the order the walk visits them (R176). -/
def QrMatrix.dataModules (q : QrMatrix) : List (Int × Int) :=
  (visitOrder q.size).filter (fun c => !(q.isFunc c.1 c.2))

/-- Bit `j` of the stream in a state: codeword `j div 8` from its most significant bit (R173). -/
def streamBitAt (s : State) (j : Nat) : Bool := (s.memByte (0x3000 + j / 8)).getLsbD (7 - j % 8)

/-! ## The symbol GENERATE makes -/

/-- The functional modules of the symbol of version `v` with format word `(e, m)`, and the value of each: format and
version words, dark module, finders, separators, alignment patterns but those centred on a finder, and timing where no
alignment pattern stands (R150 to R158, R190 to R193). -/
def symbolModule (v : Version) (e : EcLevel) (m : Fin 8) (x y : Int) : Option Bool :=
  let S : Int := v.size
  let format := (formatCellIndex S x y).map (fun k => (fmtWord e m).getLsbD (14 - k))
  let version :=
    if 7 ≤ v.num then (versionCellIndex S x y).map (fun i => (verWord v.num).getLsbD i) else none
  let alignment := (((alignCenters v).product (alignCenters v)).find?
    (fun c => (finderModule S c.1 c.2).isNone && decide (ringOf c.1 c.2 x y ≤ 2))).map
    (fun c => decide (ringOf c.1 c.2 x y ≠ 1))
  format.or (version.or ((darkModule v.num x y).or ((finderModule S x y).or ((separatorModule S x y).or
    (alignment.or (timingModule S x y))))))

/-- The data and remainder modules of that symbol, in the order the walk visits them (R176). -/
def symbolPlaces (v : Version) (e : EcLevel) (m : Fin 8) : List (Int × Int) :=
  (visitOrder v.size).filter (fun c => (symbolModule v e m c.1 c.2).isNone)

/-! ## Runs of commands -/

/-- Run commands one after another, with nothing between them (R159, R202). -/
def runCommands (is : List Instr) (s : State) : Host.Outcome State Fault Refusal :=
  match is with
  | [] => .next s
  | i :: rest =>
    match exec i s with
    | .next t => runCommands rest t
    | .fault r => .fault r
    | .refused r => .refused r

/-- Two states agree on everything but the engine's internal state, which the host cannot see (R42). -/
def SameButEngine (s t : State) : Prop := t = { s with engine := t.engine }

end Sys2Proof.Machine
end

