-- ==== Sys2Proof/Certificates/Slice0/Obligations.lean ====
section
/-! DEFINITION. The statements for the provers. Each says what a rule of spec/ says, in the terms of Safety.lean. -/

open Sys2Proof Sys2Proof.Machine

/-! ## Encoding -/

/-- Encoding a well-formed command and decoding the word gives the command back, with every operand at every value its
field holds (R102, R104, R107). -/
def Obligations.DecodeOfEncode : Prop :=
  ∀ i : Instr, i.wellFormed = true → decode (encode i) = .ok i

/-- A word that decodes is the encoding of its command, which is well formed, and the disassembler shows that command;
any other word it shows as a word (R107, R109). -/
def Obligations.EncodeOfDecode : Prop :=
  ∀ w : Word,
    (∀ i, decode w = .ok i →
      i.wellFormed = true ∧ encode i = w ∧ disasm w = .command i.mnemonic i.operands) ∧
    (∀ e, decode w = .error e → disasm w = .word w)

/-- Decoding reads the opcode map: the opcode from bits 7 to 0, the operands from their bits, and no command where the
opcode is unlisted or a reserved bit is 1 (R103, R104). -/
def Obligations.DecodeReadsTheOpcodeMap : Prop :=
  ∀ w : Word, (match decode w with | .ok i => some i | .error _ => none) = wordCommand w.toNat

/-- The words that decode are those that match a row of spec/opcode_table.json, and no word matches two rows. -/
def Obligations.DecodableWordsMatchOneRow : Prop :=
  (∀ w : Word, (∃ i, decode w = .ok i) ↔ ∃ p ∈ opcodeMasks, w &&& p.1 = p.2) ∧
    opcodeMasks.Pairwise (fun p q => ∀ w : Word, ¬(w &&& p.1 = p.2 ∧ w &&& q.1 = q.2))

/-- An illegal word is one with an opcode of R105's list or a reserved bit that is 1; when the engine runs it, the command
ends at once with ILLEGAL_COMMAND and nothing else changes. -/
def Obligations.IllegalWordsEndAtOnce : Prop :=
  (∀ w : Word, illegalWord w ↔ ∃ e, decode w = .error e) ∧
    ∀ s : State, s.status.busy = true → engineNext s → illegalWord s.cmd →
      step s = .next { s with turns := s.turns.tail, status := errorStatus s.status .illegalCommand }

/-- Words written out from the formats of R96 to R101 decode to the commands they stand for, one or more for every opcode
group of R103. -/
def Obligations.SpecWordsDecode : Prop :=
  decode 0x00000000 = .ok .nop ∧ decode 0x00000001 = .ok .matNew ∧
  decode 0x010E0E02 = .ok (.matPut 14 14 true false) ∧ decode 0x02FF0102 = .ok (.matPut 1 255 false true) ∧
  decode 0x00150003 = .ok (.matGet 0 21) ∧
  decode 0x00CA5310 = .ok (.gfAdd 0x53 0xCA) ∧ decode 0x00CA5311 = .ok (.gfMul 0x53 0xCA) ∧
  decode 0x00001912 = .ok (.gfExp 25) ∧ decode 0x00001D13 = .ok (.gfLog 0x1D) ∧
  decode 0x00000D20 = .ok (.rsBlock 13) ∧ decode 0x00000021 = .ok .ecPipeline ∧
  decode 0x00000030 = .ok .paintFinders ∧ decode 0x00000037 = .ok .paintFunctional ∧
  decode 0x00000040 = .ok .walk ∧ decode 0x00000050 = .ok .paintFormat ∧
  decode 0x00000051 = .ok .paintVersion ∧ decode 0x00000060 = .ok .generate ∧
  decode 0x00000100 = .error .reservedBits ∧ decode 0x00000004 = .error .unlistedOpcode

/-! ## Steps and the lifecycle of a command -/

/-- While BUSY, the engine's turn runs the command that `CMD` decodes to; a host turn is one transaction; a reset turn is
the reset; the engine's turn while idle changes nothing but the schedule. Storing a well-formed command's word where the
step fetches makes the next step run it. The clauses are the model's choices and no rule's: the schedule of turns is
notes/assumptions/1.md's, `withFetchWord` 12.md's, the idle engine turn 18.md's. -/
def Obligations.StepRunsTheDecodedCommand : Prop :=
  (∀ (s : State) (i : Instr), s.status.busy = true → engineNext s → decode s.cmd = .ok i →
    step s = exec i (s.withTurns s.turns.tail)) ∧
  (∀ s : State, s.status.busy = false → engineNext s → step s = .next (s.withTurns s.turns.tail)) ∧
  (∀ (s : State) (r : Request) (ts : List Turn), s.turns = .host r :: ts →
    step s = .next ((s.withTurns ts).transact r)) ∧
  (∀ (s : State) (ts : List Turn), s.turns = .reset :: ts → step s = .next ((s.withTurns ts).hardReset)) ∧
  (∀ (s : State) (i : Instr), i.wellFormed = true →
    step (s.withFetchWord 32 (encode i).toNat) = exec i (s.startCommand (encode i)))

/-- A legal write to `CMD` with BUSY = 0 stores the word, sets BUSY, clears DONE, ERR and ERRCODE and leaves OVR; with
BUSY = 1 it starts nothing. While BUSY is 1 no host turn changes `CMD` or an operand, so the engine runs the word, on the
operands as they stood at the start (R210). -/
def Obligations.CommandStart : Prop :=
  (∀ (s : State) (r : Request), legalRequest r 4 → r.write = true → r.addr.toNat = 0x04 →
    (s.status.busy = false → ∃ d, s.transact r =
      responded { s with
        cmd := r.wdata
        status := { busy := true, done := false, err := false, errcode := none, ovr := s.status.ovr } } d false) ∧
    (s.status.busy = true → ∃ d, s.transact r =
      responded { s with status := { s.status with ovr := true } } d false)) ∧
  (∀ (s : State) (r : Request), s.status.busy = true →
    ∃ st p, s.transact r = { s with status := st, rsp := p, draws := s.draws + 1 } ∧ st.busy = true)

/-- Every command completes: its last step sets DONE and clears BUSY, sets ERR and ERRCODE when it raised an error, and
leaves ERR and ERRCODE as they were when it did not; OVR is never changed (R211). The other two clauses are the model's: a
command in progress ends, or a reset abandons it, within the turns that are scheduled and one more, since an empty schedule
is the engine's turn (notes/assumptions/1.md); and no step ever stops the machine, since `Fault` has no constructor
(17.md). -/
def Obligations.EveryCommandCompletes : Prop :=
  (∀ (i : Instr) (s : State), ∃ t, exec i s = .next t ∧
    (t.status = doneStatus s.status ∨ ∃ c, t.status = errorStatus s.status c)) ∧
  (∀ s : State, s.status.busy = true → ∃ n t, n ≤ s.turns.length + 1 ∧ core.run n s = .next t ∧
    t.status.busy = false) ∧
  (∀ s : State, ∃ t, step s = .next t)

/-- A command reports the first error of its checks in the order of R215 and then has changed STATUS only (R213); with
none it completes without an error. -/
def Obligations.ErrorsFollowTheChecks : Prop :=
  ∀ (i : Instr) (s : State),
    (∀ c, expectedError i s = some c → RaisesOnly i s c) ∧
    (expectedError i s = none → ∃ t, exec i s = .next t ∧ t.status = doneStatus s.status)

/-- No command writes `CMD`, `CFG`, an `ARG` register, `DATA_LEN` or `DATA_IN`, nor anything the bus and the schedule own
(R26, R28, R45, R88, R241). -/
def Obligations.EngineNeverWritesHostInputs : Prop :=
  ∀ (i : Instr) (s t : State), exec i s = .next t →
    t.cmd = s.cmd ∧ t.cfg = s.cfg ∧ t.arg0 = s.arg0 ∧ t.arg1 = s.arg1 ∧ t.arg2 = s.arg2 ∧
    t.dataLen = s.dataLen ∧ t.rsp = s.rsp ∧ t.turns = s.turns ∧ t.epoch = s.epoch ∧ t.draws = s.draws ∧
    t.params = s.params ∧ ∀ a, a < 0x2000 → t.memByte a = s.memByte a

/-- Each output has its own writers: RESULT the GF commands and MAT_GET (R27), the matrix the commands of R147, WALK_COUNT,
WALK_MODS and WALK_POS only WALK and GENERATE (R36), STREAM_LEN only EC_PIPELINE and GENERATE (R29), `ECBUF` only RS_BLOCK,
EC_PIPELINE and GENERATE, `STREAM` only EC_PIPELINE and GENERATE (R46). -/
def Obligations.OutputsHaveTheirOwnWriters : Prop :=
  ∀ (i : Instr) (s t : State), exec i s = .next t →
    (writesResult i = false → t.result = s.result) ∧
    (writesMatrix i = false → t.matrix = s.matrix) ∧
    (i ≠ .walk → i ≠ .generate →
      t.walkCount = s.walkCount ∧ t.walkMods = s.walkMods ∧ t.walkPos = s.walkPos) ∧
    (i ≠ .ecPipeline → i ≠ .generate → t.streamLen = s.streamLen) ∧
    ∀ a, ¬ mayWriteByte i a → t.memByte a = s.memByte a

/-- The host never changes the matrix: where a step leaves another matrix, the engine ran one of the commands of R147, or
the reset input dropped the matrix. -/
def Obligations.MatrixIsOwnedByTheEngine : Prop :=
  ∀ s t : State, step s = .next t → t.matrix ≠ s.matrix →
    (∃ i, decode s.cmd = .ok i ∧ writesMatrix i = true ∧ s.status.busy = true ∧ engineNext s) ∨
    (t.matrix = none ∧ ∃ ts, s.turns = .reset :: ts)

/-- Only these write STATUS: a command's start and completion, a dropped host write (OVR), the host's write-1-to-clear,
and reset (R41, R235). -/
def Obligations.StatusHasThreeWriters : Prop :=
  ∀ s t : State, step s = .next t → t.status = s.status ∨
    (s.status.busy = true ∧ engineNext s ∧
      (t.status = doneStatus s.status ∨ ∃ c, t.status = errorStatus s.status c)) ∨
    (t.status = State.reset.status ∧ ∃ ts, s.turns = .reset :: ts) ∨
    (∃ r ts n, s.turns = .host r :: ts ∧ r.write = true ∧ legalRequest r n ∧
      ((s.status.busy = false ∧ r.addr.toNat = 0x04 ∧
          t.status = { s.status with busy := true, done := false, err := false, errcode := none }) ∨
        (r.addr.toNat = 0x08 ∧ t.status = (registerWritten s 0x08 r.wdata.toNat).status) ∨
        (s.status.busy = true ∧ r.addr.toNat ≠ 0x08 ∧ t.status = { s.status with ovr := true })))

/-! ## The invariant -/

/-- The reset state meets the invariant. -/
def Obligations.ResetMeetsTheInvariant : Prop := State.reset.Inv

/-- Every step keeps the invariant: memory stays canonical, ERR agrees with ERRCODE and is 0 while BUSY, and the plane bits
that belong to no module stay 0 (R24, R44, R210, R211). -/
def Obligations.EveryStepKeepsTheInvariant : Prop :=
  ∀ s t : State, s.Inv → step s = .next t → t.Inv

/-! ## Reset -/

/-- After reset every register reads its reset value and no matrix is held; every byte of the memories is unspecified anew
(notes/assumptions/5.md), so nothing is listed in memory (R236). The same values stand in `State.reset`. -/
def Obligations.ResetValues : Prop :=
  ∀ s : State, (s = State.reset ∨ ∃ u ts, u.turns = .reset :: ts ∧ step u = .next s) →
    s.matrix = none ∧ s.status.busy = false ∧
    (∀ a, s.memByte a = Config.unspecifiedByte s.epoch a) ∧
    (s.csr 0x00).toNat = 0x51520007 ∧ (s.csr 0x38).toNat = 0x800077C4 ∧
    (∀ off ∈ [0x04, 0x08, 0x0C, 0x10, 0x14, 0x18, 0x1C, 0x20, 0x24, 0x28, 0x2C, 0x30, 0x34, 0x3C, 0x40, 0x44, 0x48],
      s.csr off = 0)

/-! ## The bus -/

/-- A misaligned access, an access of 1 or 2 bytes to the CSRs, and one of the reserved size are bus errors that change no
state; every other access succeeds (R77, R78). -/
def Obligations.BusErrorsChangeNothing : Prop :=
  ∀ (s : State) (r : Request),
    ((¬∃ n, legalRequest r n) → ∃ d, s.transact r = responded s d true) ∧
    ((∃ n, legalRequest r n) → ∃ p, (s.transact r).rsp = some p ∧ p.err = false)

/-- A read never changes state: only the response is new, whatever the address and whether or not a command runs (R82). -/
def Obligations.ReadsChangeNothing : Prop :=
  ∀ (s : State) (r : Request), r.write = false → ∃ d e, s.transact r = responded s d e

/-- A read of a CSR with BUSY = 0 returns its fields at their places and 0 in every reserved bit, and 0 at the reserved
offsets; PARAM0 to PARAM4 show the tables at the present CFG (R22 to R39). -/
def Obligations.RegistersReadTheirFields : Prop :=
  ∀ (s : State) (r : Request), legalRequest r 4 → r.addr.toNat < 0x100 → r.write = false → s.status.busy = false →
    ∃ d, s.transact r = responded s d false ∧ d.toNat = registerValue s r.addr.toNat

/-- A write to a CSR with BUSY = 0 stores its fields, starts a command at CMD, clears what is written 1 at STATUS, and is
ignored at a read-only or reserved offset (R22 to R29, R39). -/
def Obligations.RegistersTakeTheirFields : Prop :=
  ∀ (s : State) (r : Request), legalRequest r 4 → r.addr.toNat < 0x100 → r.write = true → s.status.busy = false →
    ∃ d, s.transact r = responded (registerWritten s r.addr.toNat r.wdata.toNat) d false

/-- A read of a byte memory with BUSY = 0 returns the bytes that stand there, byte `a` on lane `a mod 4` (R74, R75). -/
def Obligations.MemoryReadsReturnTheBytes : Prop :=
  ∀ (s : State) (r : Request) (n : Nat), legalRequest r n → isMemAddr r.addr.toNat = true → r.write = false →
    s.status.busy = false →
    ∃ d, s.transact r = responded s d false ∧
      ∀ k, k < n → byteOf d ((r.addr.toNat + k) % 4) = s.memByte (r.addr.toNat + k)

/-- A write to a byte memory with BUSY = 0 stores its bytes from their lanes and changes nothing else: no register, and no
other byte (R74, R75). -/
def Obligations.MemoryWritesStoreTheBytes : Prop :=
  ∀ (s : State) (r : Request) (n : Nat), legalRequest r n → isMemAddr r.addr.toNat = true → r.write = true →
    s.status.busy = false →
    ∃ d m, s.transact r = responded { s with mem := m } d false ∧
      ∀ a, (s.transact r).memByte a =
        if r.addr.toNat ≤ a ∧ a < r.addr.toNat + n then byteOf r.wdata (a % 4) else s.memByte a

/-- The example of R76: after a 4-byte write of 0x04030201 at 0x1000, the byte at 0x1001 reads 2, the half word at 0x1002
reads 0x0403, and the bytes are 1, 2, 3, 4. -/
def Obligations.MixedWidthExample : Prop :=
  ∀ s : State, s.status.busy = false →
    let t := s.transact (memWrite 0x1000 4 0x04030201)
    (∃ p, (t.transact (memRead 0x1001 1)).rsp = some p ∧ offLanes 0x1001 1 p.rdata = 0x02) ∧
    (∃ p, (t.transact (memRead 0x1002 2)).rsp = some p ∧ offLanes 0x1002 2 p.rdata = 0x0403) ∧
    t.loadBytes 0x1000 4 = [1, 2, 3, 4]

/-- The matrix windows and the reserved ranges ignore writes without a bus error: with BUSY = 0 nothing changes, and at any
time nothing but STATUS (R79, R80). A read of a reserved range with BUSY = 0 returns 0 (R80). -/
def Obligations.WindowsAndReservedRanges : Prop :=
  ∀ (s : State) (r : Request) (n : Nat), legalRequest r n →
    (((0x100 ≤ r.addr.toNat ∧ r.addr.toNat < 0x1000) ∨ 0x6000 ≤ r.addr.toNat) → r.write = false →
      s.status.busy = false →
      ∃ d, s.transact r = responded s d false ∧ ∀ k, k < n → byteOf d ((r.addr.toNat + k) % 4) = 0) ∧
    (((0x100 ≤ r.addr.toNat ∧ r.addr.toNat < 0x1000) ∨ 0x4000 ≤ r.addr.toNat) → r.write = true →
      ∃ d st, s.transact r = responded { s with status := st } d false ∧ (s.status.busy = false → st = s.status))

/-- With BUSY = 1 a host write that is no bus error and not to STATUS is dropped and sets OVR, and one to STATUS is
performed. OVR, once 1, stays 1 until the host writes a 1 to it or a reset: no command's start or completion clears it
(R241). -/
def Obligations.WritesWhileBusy : Prop :=
  (∀ (s : State) (r : Request) (n : Nat), legalRequest r n → r.write = true → s.status.busy = true →
    (r.addr.toNat ≠ 0x08 →
      ∃ d, s.transact r = responded { s with status := { s.status with ovr := true } } d false) ∧
    (r.addr.toNat = 0x08 → ∃ d, s.transact r = responded (registerWritten s 0x08 r.wdata.toNat) d false)) ∧
  (∀ s t : State, s.status.ovr = true → step s = .next t → t.status.ovr = false →
    (∃ ts, s.turns = .reset :: ts) ∨
    (∃ r ts, s.turns = .host r :: ts ∧ legalRequest r 4 ∧ r.write = true ∧ r.addr.toNat = 0x08 ∧
      r.wdata.getLsbD 8 = true))

/-- With BUSY = 1 the registers the engine does not write, STATUS and `DATA_IN` read as at any time, and a read of what the
engine may be writing succeeds with free data (R242; the free word is notes/assumptions/7.md's). -/
def Obligations.ReadsWhileBusy : Prop :=
  ∀ (s : State) (r : Request) (n : Nat), legalRequest r n → r.write = false → s.status.busy = true →
    (steadyRegister r.addr.toNat →
      ∃ d, s.transact r = responded s d false ∧ d.toNat = registerValue s r.addr.toNat) ∧
    (0x1000 ≤ r.addr.toNat ∧ r.addr.toNat < 0x2000 →
      ∃ d, s.transact r = responded s d false ∧
        ∀ k, k < n → byteOf d ((r.addr.toNat + k) % 4) = s.memByte (r.addr.toNat + k)) ∧
    (unsteadyAddress r.addr.toNat → s.transact r = responded s (Config.freeWord s.draws) false)

/-- The windows show the planes least significant bit first: byte `i` of a window holds plane bits `8·i` to `8·i + 7` and word
`w` plane bits `32·w` to `32·w + 31`, so a module's value is bit `(x + S·y) mod 32` of the word at
`0x4000 + 4·((x + S·y) div 32)` (R73). -/
def Obligations.WindowsShowThePlanes : Prop :=
  ∀ (s : State) (q : QrMatrix) (w : Nat), s.status.busy = false → s.matrix = some q → w < 1024 →
    (∀ k, k < 4 →
      (∃ d, s.transact (memRead (0x4000 + 4 * w + k) 1) = responded s d false ∧
        ∀ b, b < 8 → (byteOf d k).getLsbD b = planeBit q.value (8 * (4 * w + k) + b)) ∧
      (∃ d, s.transact (memRead (0x5000 + 4 * w + k) 1) = responded s d false ∧
        ∀ b, b < 8 → (byteOf d k).getLsbD b = planeBit q.functional (8 * (4 * w + k) + b))) ∧
    (∃ d, s.transact (memRead (0x4000 + 4 * w) 4) = responded s d false ∧
      ∀ b, b < 32 → d.getLsbD b = planeBit q.value (32 * w + b)) ∧
    (∃ d, s.transact (memRead (0x5000 + 4 * w) 4) = responded s d false ∧
      ∀ b, b < 32 → d.getLsbD b = planeBit q.functional (32 * w + b)) ∧
    (∀ x y : Nat, x < q.size → y < q.size → x + q.size * y = 32 * w + (x + q.size * y) % 32 →
      q.get x y = some { value := planeBit q.value (32 * w + (x + q.size * y) % 32),
                         functional := planeBit q.functional (32 * w + (x + q.size * y) % 32) })

/-! ## The tables -/

/-- `EXP` and `LOG` are the powers of α and their inverse, and inverse bijections (R50, R122). -/
def Obligations.ExpAndLogTables : Prop :=
  (∀ i, i < 255 → expRom i = alphaPow i ∧ logRom (expRom i) = i) ∧
  (∀ v : Byte, v ≠ 0 → logRom v < 255 ∧ expRom (logRom v) = v)

/-- The tables hold what their rules say: the generator polynomials by their roots (R55), the format and version words by
their BCH codes (R56, R57), the pattern bitmaps by their rings (R58), the block table's totals (R52, R53), and the alignment centres from 6 to
`S − 7` in steps of at least 12, with none for V = 1 (R54). -/
def Obligations.TablesFollowTheirRules : Prop :=
  (∀ k, 1 ≤ k → k ≤ 68 →
    genRow k = (generatorPoly k).map logRom ∧ (0 : Byte) ∉ generatorPoly k) ∧
  (∀ (e : EcLevel) (m : Fin 8),
    (fmtWord e m).toNat =
      let d := levelIndicator e * 8 + m.val
      (d * 2 ^ 10 ||| gf2Rem 0x537 10 5 (d * 2 ^ 10)) ^^^ 0x5412) ∧
  (∀ v, 7 ≤ v → v ≤ 40 → (verWord v).toNat = v * 2 ^ 12 ||| gf2Rem 0x1F25 12 6 (v * 2 ^ 12)) ∧
  (∀ r c, r < 7 → c < 7 → finderBit r c = decide (ringOf 3 3 c r ≠ 2)) ∧
  (∀ r c, r < 5 → c < 5 → alignBit r c = decide (ringOf 2 2 c r ≠ 1)) ∧
  (∀ (v : Version) (e : EcLevel),
    (blockSpec v e).totalCw = v.raw / 8 ∧ 7 ≤ (blockSpec v e).ec ∧ (blockSpec v e).ec ≤ 30 ∧
    (0 < (blockSpec v e).n2 → (blockSpec v e).s2 = (blockSpec v e).s1 + 1)) ∧
  (∀ v : Version,
    let a := alignCenters v
    (v.num = 1 → a = []) ∧
    (2 ≤ v.num → a.head? = some 6 ∧ a.getLast? = some (v.size - 7) ∧
      ∀ i, i + 1 < a.length → a.getD i 0 + 12 ≤ a.getD (i + 1) 0))

/-! ## NOP and the GF commands -/

/-- NOP completes and does nothing else (R200). -/
def Obligations.NopDoesNothing : Prop :=
  ∀ s : State, exec .nop s = .next { s with status := doneStatus s.status }

/-- GF_ADD and GF_MUL write the sum and the product to RESULT with VALID = 1 and change nothing else (R115 to R118): the sum
is the bitwise XOR, the product the carry-less product reduced modulo 0x11D. -/
def Obligations.GfAddAndGfMulResults : Prop :=
  ∀ (a b : Byte) (s : State),
    exec (.gfAdd a b) s =
      .next { s with result := { data := a ^^^ b, valid := true }, status := doneStatus s.status } ∧
    exec (.gfMul a b) s =
      .next { s with result := { data := polyMul a b 8, valid := true }, status := doneStatus s.status }

/-- The laws of the field: `⊗` is commutative and associative, distributes over `⊕`, has the unit 1, and every nonzero `a` has
the inverse `EXP[(255 − LOG[a]) mod 255]` (R118). -/
def Obligations.GfLaws : Prop :=
  ∀ a b c : Byte,
    gfMulByte a b = gfMulByte b a ∧
    gfMulByte (gfMulByte a b) c = gfMulByte a (gfMulByte b c) ∧
    gfMulByte a (gfAddByte b c) = gfAddByte (gfMulByte a b) (gfMulByte a c) ∧
    gfMulByte 1 a = a ∧ gfAddByte 0 a = a ∧ gfAddByte a a = 0 ∧
    (a ≠ 0 → gfMulByte a (expRom ((255 - logRom a) % 255)) = 1)

/-- GF_EXP writes `αⁱ` for an exponent below 255 (R121). GF_LOG of a nonzero element writes the exponent below 255 whose power
of α it is (R123). Each changes nothing else. -/
def Obligations.GfExpAndGfLogResults : Prop :=
  (∀ (i : Nat) (s : State), i < 255 → exec (.gfExp i) s =
    .next { s with result := { data := alphaPow i, valid := true }, status := doneStatus s.status }) ∧
  (∀ (v : Byte) (s : State), v ≠ 0 → ∃ d : Byte, d.toNat < 255 ∧ alphaPow d.toNat = v ∧ exec (.gfLog v) s =
    .next { s with result := { data := d, valid := true }, status := doneStatus s.status })

/-! ## Reed–Solomon -/

/-- RS_BLOCK with its operands in range writes the remainder of `DATA_IN[src … src+n−1]` to `ECBUF[dst … dst+k−1]` and changes
nothing else that the host can see: no register but STATUS, and no other byte (R126). -/
def Obligations.RsBlockResult : Prop :=
  ∀ (k : Nat) (s : State), 1 ≤ k → k ≤ 68 → s.arg0.toNat + s.arg1.toNat ≤ 4096 → s.arg2.toNat + k ≤ 4096 →
    ∃ t, exec (.rsBlock k) s = .next t ∧
      t = { s with mem := t.mem, engine := t.engine, status := doneStatus s.status } ∧
      ∀ a, t.memByte a =
        if 0x2000 + s.arg2.toNat ≤ a ∧ a < 0x2000 + s.arg2.toNat + k then
          (rsRem (s.loadBytes (0x1000 + s.arg0.toNat) s.arg1.toNat) k).getD (a - (0x2000 + s.arg2.toNat)) 0
        else s.memByte a

/-- `RSREM` of the model, which consumes the working vector from the front, is the loop of R127 on one indexed vector. -/
def Obligations.RsremIsThePseudocode : Prop :=
  ∀ (b : List Byte) (k : Nat), 1 ≤ k → k ≤ 68 → rsRem b k = rsremLoop b k

/-- The RS property: the block followed by its remainder, as a polynomial, has every root of the generator, `αⁱ` for `i < k`,
so the generator divides it; the remainder has length `k` (R125, R128). -/
def Obligations.BlockAndRemainderAreDivisible : Prop :=
  ∀ (b : List Byte) (k : Nat), 1 ≤ k → k ≤ 68 →
    (rsRem b k).length = k ∧ ∀ i, i < k → polyEval (b ++ rsRem b k) (alphaPow i) = 0

/-- The remainder is linear, ignores leading zero codewords, is zero for an all-zero block and the empty block, and for
`k = 1` is the sum of the codewords (R128). -/
def Obligations.RemainderIsLinear : Prop :=
  (∀ (b c : List Byte) (k : Nat), 1 ≤ k → k ≤ 68 → b.length = c.length →
    rsRem (List.zipWith (· ^^^ ·) b c) k = List.zipWith (· ^^^ ·) (rsRem b k) (rsRem c k)) ∧
  (∀ (b : List Byte) (k : Nat), 1 ≤ k → k ≤ 68 → rsRem (0 :: b) k = rsRem b k) ∧
  (∀ n k : Nat, 1 ≤ k → k ≤ 68 → rsRem (List.replicate n 0) k = List.replicate k 0) ∧
  (∀ b : List Byte, rsRem b 1 = [b.foldl (· ^^^ ·) 0])

/-- EC_PIPELINE with a legal version and the table's payload length leaves every EC block in `ECBUF`, the interleaved data and
EC codewords in `STREAM`, and their number in STREAM_LEN, and changes nothing else that the host can see (R130 to R135). -/
def Obligations.EcPipelineResult : Prop :=
  ∀ (s : State) (v : Version), s.cfg.version.toNat = v.num →
    let b := blockSpec v (levelOf s.cfg.ecl)
    s.dataLen.toNat = b.s1 * b.n1 + b.s2 * b.n2 →
    ∃ t, exec .ecPipeline s = .next t ∧
      t = { s with mem := t.mem, engine := t.engine, streamLen := t.streamLen, status := doneStatus s.status } ∧
      t.streamLen.toNat = b.totalCw ∧ HoldsCodewords s t b

/-- Interleaving puts codeword `c` of block `t` at its column-major place, for blocks of any lengths, and the result is as long
as the blocks together, so it can be undone (R129, R134). -/
def Obligations.InterleavePlacesEveryCodeword : Prop :=
  ∀ blocks : List (List Byte),
    (interleave blocks).length = (blocks.map List.length).sum ∧
    ∀ t c, c < (blocks.getD t []).length →
      (interleave blocks)[interleavePos (blocks.map List.length) t c]? = (blocks.getD t [])[c]?

/-! ## The matrix -/

/-- MAT_NEW with a legal version latches it and clears both planes whole, and changes nothing else (R144). -/
def Obligations.MatNewResult : Prop :=
  ∀ (s : State) (v : Version), s.cfg.version.toNat = v.num →
    ∃ q, exec .matNew s = .next { s with matrix := some q, status := doneStatus s.status } ∧
      q.version = v ∧ ∀ p, planeBit q.value p = false ∧ planeBit q.functional p = false

/-- MAT_PUT writes both bits of the module at `(X, Y)`, or nothing when it is out of bounds, and changes nothing else; both
complete (R142, R145). -/
def Obligations.MatPutResult : Prop :=
  ∀ (x y : Nat) (v f : Bool) (s : State) (q : QrMatrix), s.matrix = some q →
    ∃ q', exec (.matPut x y v f) s = .next { s with matrix := some q', status := doneStatus s.status } ∧
      SameTail q q' ∧
      ∀ x' y' : Int, q'.get x' y' =
        if x' = x ∧ y' = y ∧ x < q.size ∧ y < q.size then some { value := v, functional := f } else q.get x' y'

/-- MAT_GET writes the module's two bits to RESULT with VALID = 1, and 0 with VALID = 0 out of bounds, and changes nothing else
(R141, R146). -/
def Obligations.MatGetResult : Prop :=
  ∀ (x y : Nat) (s : State) (q : QrMatrix), s.matrix = some q →
    ∃ r, exec (.matGet x y) s = .next { s with result := r, status := doneStatus s.status } ∧
      (x < q.size → y < q.size → r.valid = true ∧ r.data.toNat =
        (planeBit q.value (x + q.size * y)).toNat + 2 * (planeBit q.functional (x + q.size * y)).toNat) ∧
      (¬(x < q.size ∧ y < q.size) → r.valid = false ∧ r.data = 0)

/-! ## The painter -/

/-- PAINT_FINDERS paints three finders, dark in the rings 0, 1 and 3 around their centres and light in ring 2, and nothing
else (R151). -/
def Obligations.PaintFindersResult : Prop :=
  ∀ (s : State) (q : QrMatrix), s.matrix = some q → PaintsExactly .paintFinders s q (finderModule q.size)

/-- PAINT_SEPARATORS paints the light ring around each finder, as far as it is in bounds, and nothing else (R152). -/
def Obligations.PaintSeparatorsResult : Prop :=
  ∀ (s : State) (q : QrMatrix), s.matrix = some q → PaintsExactly .paintSeparators s q (separatorModule q.size)

/-- PAINT_ALIGNMENT paints the pattern at each centre of the product whose module is not functional when the command starts,
and nothing else (R153). -/
def Obligations.PaintAlignmentResult : Prop :=
  ∀ (s : State) (q : QrMatrix), s.matrix = some q → PaintsExactly .paintAlignment s q (alignmentModule q)

/-- PAINT_TIMING paints row 6 and column 6 between coordinates 8 and `S−9`, dark where the coordinate is even, and leaves the
functional modules there alone (R154). -/
def Obligations.PaintTimingResult : Prop :=
  ∀ (s : State) (q : QrMatrix), s.matrix = some q →
    PaintsExactly .paintTiming s q (fun x y => if q.isFunc x y = true then none else timingModule q.size x y)

/-- PAINT_DARK paints the module `(8, 4·V + 9)` dark and nothing else (R155). -/
def Obligations.PaintDarkResult : Prop :=
  ∀ (s : State) (q : QrMatrix), s.matrix = some q → PaintsExactly .paintDark s q (darkModule q.version.num)

/-- RESERVE_FORMAT paints the 30 format cells light and nothing else (R156, R157). -/
def Obligations.ReserveFormatResult : Prop :=
  ∀ (s : State) (q : QrMatrix), s.matrix = some q →
    PaintsExactly .reserveFormat s q (fun x y => (formatCellIndex q.size x y).map (fun _ => false))

/-- RESERVE_VERSION paints the 36 version cells light for `V ≥ 7`, and nothing for a lower version (R158). -/
def Obligations.ReserveVersionResult : Prop :=
  ∀ (s : State) (q : QrMatrix), s.matrix = some q →
    PaintsExactly .reserveVersion s q
      (fun x y => if 7 ≤ q.version.num then (versionCellIndex q.size x y).map (fun _ => false) else none)

/-- PAINT_FORMAT with a legal mask writes bit `14 − k` of the format word to cell `k` of both copies and nothing else (R190,
R191). -/
def Obligations.PaintFormatResult : Prop :=
  ∀ (s : State) (q : QrMatrix), s.matrix = some q → s.cfg.mask.toNat ≤ 7 →
    PaintsExactly .paintFormat s q (fun x y => (formatCellIndex q.size x y).map
      (fun k => (fmtRom.getD (s.cfg.ecl.toNat * 8 + s.cfg.mask.toNat) 0).getLsbD (14 - k)))

/-- PAINT_VERSION writes bit `i` of the matrix's own version word to cell `i` of both blocks for `V ≥ 7`, and nothing for a
lower version (R192, R193). -/
def Obligations.PaintVersionResult : Prop :=
  ∀ (s : State) (q : QrMatrix), s.matrix = some q →
    PaintsExactly .paintVersion s q (fun x y =>
      if 7 ≤ q.version.num then
        (versionCellIndex q.size x y).map (fun i => (verRom.getD (q.version.num - 7) 0).getLsbD i)
      else none)

/-- PAINT_FUNCTIONAL raises NO_MATRIX without a matrix, and with one leaves what its seven steps leave, issued one after
another in the listed order (R159). -/
def Obligations.PaintFunctionalIsTheSevenSteps : Prop :=
  ∀ s : State,
    (s.matrix = none → RaisesOnly .paintFunctional s .noMatrix) ∧
    (∀ q, s.matrix = some q → ∃ t u,
      exec .paintFunctional s = .next t ∧
      runCommands [.paintFinders, .paintSeparators, .paintAlignment, .paintTiming, .paintDark, .reserveFormat,
        .reserveVersion] s = .next u ∧
      SameButEngine t u ∧ t.status = doneStatus s.status)

/-- After MAT_NEW and PAINT_FUNCTIONAL the number of functional modules is the table's, and `RAW(V)` modules are left (R53,
R160). -/
def Obligations.FunctionalCounts : Prop :=
  ∀ (s : State) (v : Version), s.cfg.version.toNat = v.num → ∃ t q,
    runCommands [.matNew, .paintFunctional] s = .next t ∧ t.matrix = some q ∧
    q.functionalCount = functionalTable.getD v.row.val 0 ∧
    q.functionalCount + v.raw = (17 + 4 * v.num) * (17 + 4 * v.num)

/-! ## The walk -/

/-- The machine's own walk, on any matrix and any input, visits every coordinate except column 6 exactly once, `S·(S−1)` in
all, in the order of R174; its effect is `VISIT` at these coordinates in turn; and its FSM ends at `x_right = −1`, `y = S−1`,
direction up (R172, R174, R177). -/
def Obligations.WalkVisitsEachModuleOnce : Prop :=
  ∀ (i : WalkInput) (q : QrMatrix),
    let S := q.size
    let coords := (WalkRun.start q).visited i (S * S)
    let r := (WalkRun.start q).visitAll i coords
    let w := runWalk i q
    coords = visitOrder S ∧ coords.length = S * (S - 1) ∧ coords.Nodup ∧
    (∀ x y : Int, (x, y) ∈ coords ↔ 0 ≤ x ∧ x < S ∧ 0 ≤ y ∧ y < S ∧ x ≠ 6) ∧
    w.matrix = r.matrix ∧ w.mods = r.mods ∧ w.fsm.bitptr = r.fsm.bitptr ∧
    w.fsm.xr = -1 ∧ w.fsm.y = S - 1 ∧ w.fsm.up = true

/-- WALK with a legal mask and stream length places stream bit `j`, XORed with the mask, in the `j`-th non-functional module of
the visit order and leaves it non-functional; after the stream a module gets the mask alone, or with `LEAVE` stays as it was.
Every other module is as before; WALK_COUNT, WALK_MODS and WALK_POS hold the counts and the end position; nothing else that the
host can see changes (R171 to R178). -/
def Obligations.WalkResult : Prop :=
  ∀ (s : State) (q : QrMatrix) (m : Fin 8), s.matrix = some q → s.cfg.mask.toNat = m.val → s.streamLen.toNat ≤ 4096 →
    let places := q.dataModules
    let bits := 8 * s.streamLen.toNat
    ∃ t q', exec .walk s = .next t ∧
      t = { s with matrix := some q', walkCount := t.walkCount, walkMods := t.walkMods, walkPos := t.walkPos,
                   engine := t.engine, status := doneStatus s.status } ∧
      t.walkCount.toNat = min bits places.length ∧
      t.walkMods.toNat =
        (match s.params.remainder with
          | .maskedZero => places.length
          | .leave => min bits places.length) ∧
      registerValue t 0x48 = 0x03000000 + (q.size - 1) * 2 ^ 16 + 0x1FF ∧
      SameTail q q' ∧
      (∀ j x y, places[j]? = some (x, y) → q'.get x y =
        if j < bits then
          some { value := xor (streamBitAt s j) (maskP m x.toNat y.toNat), functional := false }
        else
          match s.params.remainder with
          | .maskedZero => some { value := maskP m x.toNat y.toNat, functional := false }
          | .leave => q.get x y) ∧
      (∀ x y, (x, y) ∉ places → q'.get x y = q.get x y)

/-! ## GENERATE -/

/-- GENERATE with its checks passed leaves what its component commands leave, issued one after another with the same CFG
(R202). -/
def Obligations.GenerateIsItsComponents : Prop :=
  ∀ (s : State) (v : Version), s.cfg.version.toNat = v.num → s.cfg.mask.toNat ≤ 7 →
    s.dataLen.toNat = (blockSpec v (levelOf s.cfg.ecl)).dataTotal → ∃ t u,
    exec .generate s = .next t ∧
    runCommands [.ecPipeline, .matNew, .paintFunctional, .walk, .paintFormat, .paintVersion] s = .next u ∧
    SameButEngine t u ∧ t.status = doneStatus s.status

/-- GENERATE's outputs but for the planes: a matrix of the version CFG names, the codewords in the byte memories,
STREAM_LEN, and the WALK registers; nothing else that the host can see changes (R203). The planes are `GenerateMatrixResult`'s. -/
def Obligations.GenerateResult : Prop :=
  ∀ (s : State) (v : Version), s.cfg.version.toNat = v.num → s.cfg.mask.toNat ≤ 7 →
    let b := blockSpec v (levelOf s.cfg.ecl)
    s.dataLen.toNat = b.dataTotal →
    ∃ t q, exec .generate s = .next t ∧
      t = { s with matrix := some q, mem := t.mem, streamLen := t.streamLen, walkCount := t.walkCount,
                   walkMods := t.walkMods, walkPos := t.walkPos, engine := t.engine, status := doneStatus s.status } ∧
      q.version = v ∧ HoldsCodewords s t b ∧
      t.streamLen.toNat = b.totalCw ∧ t.walkCount.toNat = 8 * b.totalCw ∧
      t.walkMods.toNat =
        (match s.params.remainder with
          | .maskedZero => v.raw
          | .leave => 8 * b.totalCw) ∧
      registerValue t 0x48 = 0x03000000 + (v.size - 1) * 2 ^ 16 + 0x1FF

/-- GENERATE depends on CFG, DATA_LEN and the payload only: two states that agree on these get the same matrix, stream, EC
blocks, STREAM_LEN and WALK registers, whatever they held before (R204). Both run with the same `P_REMAINDER`. -/
def Obligations.GenerateDependsOnItsInputsOnly : Prop :=
  ∀ (s s' t t' : State) (v : Version), s.cfg = s'.cfg → s.dataLen = s'.dataLen → s.params = s'.params →
    (∀ a, a < s.dataLen.toNat → s.memByte (0x1000 + a) = s'.memByte (0x1000 + a)) →
    s.cfg.version.toNat = v.num → s.cfg.mask.toNat ≤ 7 →
    s.dataLen.toNat = (blockSpec v (levelOf s.cfg.ecl)).dataTotal →
    exec .generate s = .next t → exec .generate s' = .next t' →
    t.matrix = t'.matrix ∧ t.streamLen = t'.streamLen ∧ t.walkCount = t'.walkCount ∧ t.walkMods = t'.walkMods ∧
    t.walkPos = t'.walkPos ∧
    (∀ i, i < (blockSpec v (levelOf s.cfg.ecl)).totalCw → t.memByte (0x3000 + i) = t'.memByte (0x3000 + i)) ∧
    (∀ i, i < (blockSpec v (levelOf s.cfg.ecl)).ec * (blockSpec v (levelOf s.cfg.ecl)).blockCount →
      t.memByte (0x2000 + i) = t'.memByte (0x2000 + i))

/-- The matrix GENERATE leaves, every module of it: the functional modules as painted, with the format word of CFG and the
version word; in the other modules, in visit order, the stream bits XORed with the mask; after the stream the mask alone, or
with `LEAVE` the 0 that MAT_NEW wrote. The plane bits past the modules are 0 (R203, R204). -/
def Obligations.GenerateMatrixResult : Prop :=
  ∀ (s : State) (v : Version) (m : Fin 8), s.cfg.version.toNat = v.num → s.cfg.mask.toNat = m.val →
    let e := levelOf s.cfg.ecl
    let b := blockSpec v e
    let places := symbolPlaces v e m
    s.dataLen.toNat = b.dataTotal →
    ∃ t q, exec .generate s = .next t ∧ t.matrix = some q ∧ q.version = v ∧ q.tailClear ∧
      places.length = v.raw ∧
      (∀ (x y : Int) (d : Bool), q.inb x y = true → symbolModule v e m x y = some d →
        q.get x y = some { value := d, functional := true }) ∧
      (∀ x y : Int, q.inb x y = true → symbolModule v e m x y = none → (x, y) ∈ places) ∧
      (∀ j x y, places[j]? = some (x, y) → q.get x y = some
        { value :=
            if j < 8 * b.totalCw then xor (streamBitAt t j) (maskP m x.toNat y.toNat)
            else
              match s.params.remainder with
              | .maskedZero => maskP m x.toNat y.toNat
              | .leave => false
          functional := false })
end

