-- ==== Sys2Proof/Laws/Decode.lean ====
section
/-! SUPPORT. The bytes of a word, and what decoding looks at. -/

namespace Sys2Proof

/-- Bit `i` of `{b3, b2, b1, b0}`. -/
theorem getLsbD_wordOf (b3 b2 b1 b0 : Byte) (i : Nat) :
    (wordOf b3 b2 b1 b0).getLsbD i =
      if i < 8 then b0.getLsbD i else if i - 8 < 8 then b1.getLsbD (i - 8)
      else if i - 8 - 8 < 8 then b2.getLsbD (i - 8 - 8) else b3.getLsbD (i - 8 - 8 - 8) := by
  show BitVec.getLsbD (w := 8 + 8 + 8 + 8) (b3 ++ b2 ++ b1 ++ b0) i = _
  simp only [BitVec.getLsbD_append]

@[simp] theorem byteOf_wordOf_zero (b3 b2 b1 b0 : Byte) : byteOf (wordOf b3 b2 b1 b0) 0 = b0 := by
  apply BitVec.eq_of_getLsbD_eq; intro i hi
  simp [byteOf, getLsbD_wordOf, hi]

@[simp] theorem byteOf_wordOf_one (b3 b2 b1 b0 : Byte) : byteOf (wordOf b3 b2 b1 b0) 1 = b1 := by
  apply BitVec.eq_of_getLsbD_eq; intro i hi
  simp [byteOf, getLsbD_wordOf, hi]

@[simp] theorem byteOf_wordOf_two (b3 b2 b1 b0 : Byte) : byteOf (wordOf b3 b2 b1 b0) 2 = b2 := by
  apply BitVec.eq_of_getLsbD_eq; intro i hi
  rw [byteOf, BitVec.getLsbD_extractLsb', getLsbD_wordOf, if_neg (by omega), if_neg (by omega), if_pos (by omega)]
  simp [hi, show 8 * 2 + i - 8 - 8 = i by omega]

@[simp] theorem byteOf_wordOf_three (b3 b2 b1 b0 : Byte) : byteOf (wordOf b3 b2 b1 b0) 3 = b3 := by
  apply BitVec.eq_of_getLsbD_eq; intro i hi
  rw [byteOf, BitVec.getLsbD_extractLsb', getLsbD_wordOf, if_neg (by omega), if_neg (by omega), if_neg (by omega)]
  simp [hi, show 8 * 3 + i - 8 - 8 - 8 = i by omega]

/-- A word is its four bytes. -/
theorem wordOf_byteOf (w : Word) : wordOf (byteOf w 3) (byteOf w 2) (byteOf w 1) (byteOf w 0) = w := by
  apply BitVec.eq_of_getLsbD_eq; intro i hi
  rw [getLsbD_wordOf]
  split
  · next h => simp [byteOf, h]
  · split
    · next h1 h2 => simp [byteOf, h2, show 8 + (i - 8) = i by omega]
    · split
      · next h1 h2 h3 => simp [byteOf, h3, show 16 + (i - 8 - 8) = i by omega]
      · next h1 h2 h3 =>
        simp [byteOf, show i - 8 - 8 - 8 < 8 by omega, show 24 + (i - 8 - 8 - 8) = i by omega]

@[simp] theorem toNat_fieldOf {n : Nat} (h : fitsField n = true) : (fieldOf n).toNat = n := by
  simp only [fitsField, decide_eq_true_eq] at h
  simp only [fieldOf, BitVec.toNat_ofNat]; omega

@[simp] theorem fieldOf_toNat (b : Byte) : fieldOf b.toNat = b := by simp [fieldOf]

theorem fitsField_toNat (b : Byte) : fitsField b.toNat = true := by
  simp only [fitsField, decide_eq_true_eq]; exact b.isLt

theorem modulePutByte_reserved (v f : Bool) : (modulePutByte v f).extractLsb' 2 6 = 0#6 := by
  cases v <;> cases f <;> decide

@[simp] theorem modulePutByte_v (v f : Bool) : (modulePutByte v f).getLsbD 0 = v := by
  cases v <;> cases f <;> decide

@[simp] theorem modulePutByte_f (v f : Bool) : (modulePutByte v f).getLsbD 1 = f := by
  cases v <;> cases f <;> decide

/-- What a decoded word says: its opcode is a row of the map, the row's reserved bits are clear, and the row builds the
command. -/
theorem decode_ok {w : Word} {i : Instr} (h : decode w = .ok i) :
    ∃ r, opcodeRows.find? (fun r => r.opc == byteOf w 0) = some r ∧ reservedClear r.format w = true ∧
      i = r.build (byteOf w 1) (byteOf w 2) (byteOf w 3) := by
  unfold decode at h
  split at h
  · cases h
  · next r hr =>
    split at h
    · next hc => exact ⟨r, hr, hc, by cases h; rfl⟩
    · cases h

end Sys2Proof
end

