-- ==== Sys2Proof/Laws/Matrix.lean ====
section
/-! SUPPORT. The matrix substrate: a `get` after a `put`, and what a `put` leaves alone. -/

namespace Sys2Proof.Machine

theorem planeBit_setPlaneBit (p : Plane) (i j : Nat) (b : Bool) :
    planeBit (setPlaneBit p i b) j = if j = i ∧ i < 32768 then b else planeBit p j := by
  unfold planeBit setPlaneBit
  by_cases hj : j < 32768
  · cases b
    · by_cases h : j = i
      · subst h; simp [hj]
      · simp [hj, h]; omega
    · by_cases h : j = i
      · subst h; simp [hj]
      · simp [hj, h]; omega
  · have h : ¬(j = i ∧ i < 32768) := by omega
    rw [if_neg h, BitVec.getLsbD_of_ge _ _ (by omega), BitVec.getLsbD_of_ge _ _ (by omega)]

@[simp] theorem put_version (q : QrMatrix) (x y : Int) (v f : Bool) : (q.put x y v f).version = q.version := by
  unfold QrMatrix.put; split <;> rfl

@[simp] theorem put_size (q : QrMatrix) (x y : Int) (v f : Bool) : (q.put x y v f).size = q.size := by
  simp [QrMatrix.size]

@[simp] theorem new_version (v : Version) : (QrMatrix.new v).version = v := rfl

theorem inb_iff (q : QrMatrix) (x y : Int) :
    q.inb x y = true ↔ (0 ≤ x ∧ x < q.size) ∧ (0 ≤ y ∧ y < q.size) := by
  simp [QrMatrix.inb, and_assoc]

@[simp] theorem put_inb (q : QrMatrix) (x y x' y' : Int) (v f : Bool) :
    (q.put x y v f).inb x' y' = q.inb x' y' := by
  simp [QrMatrix.inb]

@[simp] theorem put_idx (q : QrMatrix) (x y x' y' : Int) (v f : Bool) :
    (q.put x y v f).idx x' y' = q.idx x' y' := by
  simp [QrMatrix.idx]

/-- A version's symbol is 21 to 177 modules wide. -/
theorem Version.size_bounds (v : Version) : 21 ≤ v.size ∧ v.size ≤ 177 := by
  have := v.row.isLt
  simp only [Version.size, Version.num]; omega

/-- A coordinate in bounds has its index below `S²`, and so below 32768. -/
theorem idx_lt {q : QrMatrix} {x y : Int} (h : q.inb x y = true) : q.idx x y < q.size * q.size := by
  rw [inb_iff] at h
  obtain ⟨⟨hx0, hx1⟩, hy0, hy1⟩ := h
  obtain ⟨n, rfl⟩ := Int.eq_ofNat_of_zero_le hx0
  obtain ⟨m, rfl⟩ := Int.eq_ofNat_of_zero_le hy0
  simp only [QrMatrix.idx, Int.toNat_natCast]
  have hn : n < q.size := by omega
  have hm : m + 1 ≤ q.size := by omega
  calc n + q.size * m < q.size + q.size * m := by omega
    _ = q.size * (m + 1) := by rw [Nat.mul_succ]; omega
    _ ≤ q.size * q.size := Nat.mul_le_mul_left _ hm

theorem size_sq_le (q : QrMatrix) : q.size * q.size ≤ 31329 := by
  have h := (Version.size_bounds q.version).2
  have h' : q.size ≤ 177 := h
  calc q.size * q.size ≤ 177 * 177 := Nat.mul_le_mul h' h'
    _ = 31329 := rfl

/-- Two coordinates in bounds with one index are one module. -/
theorem idx_inj {q : QrMatrix} {x y x' y' : Int} (h : q.inb x y = true) (h' : q.inb x' y' = true)
    (he : q.idx x y = q.idx x' y') : x = x' ∧ y = y' := by
  rw [inb_iff] at h h'
  obtain ⟨⟨hx0, hx1⟩, hy0, hy1⟩ := h
  obtain ⟨⟨hx0', hx1'⟩, hy0', hy1'⟩ := h'
  obtain ⟨a, rfl⟩ := Int.eq_ofNat_of_zero_le hx0
  obtain ⟨b, rfl⟩ := Int.eq_ofNat_of_zero_le hy0
  obtain ⟨c, rfl⟩ := Int.eq_ofNat_of_zero_le hx0'
  obtain ⟨d, rfl⟩ := Int.eq_ofNat_of_zero_le hy0'
  simp only [QrMatrix.idx, Int.toNat_natCast] at he
  have ha : a < q.size := by omega
  have hc : c < q.size := by omega
  have h1 : a = c := by
    have := congrArg (· % q.size) he
    simpa [Nat.add_mul_mod_self_left, Nat.mod_eq_of_lt ha, Nat.mod_eq_of_lt hc] using this
  subst h1
  have h2 : q.size * b = q.size * d := by omega
  have h3 : b = d := Nat.eq_of_mul_eq_mul_left (by omega) h2
  exact ⟨rfl, by rw [h3]⟩

/-- `get` after `put`: the module put in bounds, every other as it was. -/
theorem get_put (q : QrMatrix) (x y x' y' : Int) (v f : Bool) :
    (q.put x y v f).get x' y' =
      if x' = x ∧ y' = y ∧ q.inb x y = true then some { value := v, functional := f } else q.get x' y' := by
  by_cases hin : q.inb x y = true
  · by_cases hin' : q.inb x' y' = true
    · have hlt : q.idx x y < 32768 := by have := idx_lt hin; have := size_sq_le q; omega
      simp only [QrMatrix.get, put_inb, put_idx, hin', if_true]
      simp only [QrMatrix.put, hin, if_true, planeBit_setPlaneBit, hlt, and_true]
      by_cases he : x' = x ∧ y' = y
      · obtain ⟨rfl, rfl⟩ := he; simp
      · have hne : ¬ q.idx x' y' = q.idx x y := fun h => he (idx_inj hin' hin h)
        simp [hne, he]
    · have hne : ¬(x' = x ∧ y' = y) := by rintro ⟨rfl, rfl⟩; exact hin' hin
      have hne' : ¬(x' = x ∧ y' = y ∧ q.inb x y = true) := fun h => hne ⟨h.1, h.2.1⟩
      rw [if_neg hne']
      simp only [QrMatrix.get, put_inb, hin', Bool.false_eq_true, if_false]
  · have : q.put x y v f = q := by simp [QrMatrix.put, hin]
    rw [this, if_neg (by tauto)]

theorem isFunc_put (q : QrMatrix) (x y x' y' : Int) (v f : Bool) :
    (q.put x y v f).isFunc x' y' = if x' = x ∧ y' = y ∧ q.inb x y = true then f else q.isFunc x' y' := by
  by_cases h : x' = x ∧ y' = y ∧ q.inb x y = true
  · rw [if_pos h]; simp only [QrMatrix.isFunc, get_put, if_pos h]
  · rw [if_neg h]; simp only [QrMatrix.isFunc, get_put, if_neg h]

/-- A put leaves every plane bit past the matrix alone. -/
theorem planeBit_put_outside {q : QrMatrix} {x y : Int} {v f : Bool} {p : Nat} (hp : q.size * q.size ≤ p) :
    planeBit (q.put x y v f).value p = planeBit q.value p ∧
      planeBit (q.put x y v f).functional p = planeBit q.functional p := by
  unfold QrMatrix.put
  split
  · next h =>
    have := idx_lt h
    constructor <;> rw [planeBit_setPlaneBit, if_neg (by omega)]
  · exact ⟨rfl, rfl⟩

@[simp] theorem paint_nil (q : QrMatrix) : q.paint [] = q := rfl

@[simp] theorem paint_cons (q : QrMatrix) (s : Stroke) (ss : List Stroke) :
    q.paint (s :: ss) = (q.put s.x s.y s.v true).paint ss := rfl

theorem paint_append (q : QrMatrix) (ss ts : List Stroke) : q.paint (ss ++ ts) = (q.paint ss).paint ts := by
  simp [QrMatrix.paint, List.foldl_append]

@[simp] theorem paint_version (q : QrMatrix) (ss : List Stroke) : (q.paint ss).version = q.version := by
  induction ss generalizing q with
  | nil => rfl
  | cons s ss ih => rw [paint_cons, ih, put_version]

@[simp] theorem paint_size (q : QrMatrix) (ss : List Stroke) : (q.paint ss).size = q.size := by
  simp [QrMatrix.size]

/-- A module that no stroke hits is as it was. -/
theorem get_paint_of_not_mem {q : QrMatrix} {ss : List Stroke} {x y : Int}
    (h : ∀ s ∈ ss, ¬(s.x = x ∧ s.y = y)) : (q.paint ss).get x y = q.get x y := by
  induction ss generalizing q with
  | nil => rfl
  | cons s ss ih =>
    rw [paint_cons, ih (fun t ht => h t (List.mem_cons_of_mem _ ht)), get_put, if_neg]
    rintro ⟨h1, h2, -⟩
    exact h s List.mem_cons_self ⟨h1.symm, h2.symm⟩

/-- A module in bounds that strokes hit, all with one value, has that value and is functional. -/
theorem get_paint_of_mem {q : QrMatrix} {ss : List Stroke} {x y : Int} {v : Bool} (hin : q.inb x y = true)
    (hm : ∃ s ∈ ss, s.x = x ∧ s.y = y) (hv : ∀ s ∈ ss, s.x = x ∧ s.y = y → s.v = v) :
    (q.paint ss).get x y = some { value := v, functional := true } := by
  induction ss generalizing q with
  | nil => obtain ⟨s, hs, -⟩ := hm; cases hs
  | cons s ss ih =>
    rw [paint_cons]
    by_cases hmem : ∃ t ∈ ss, t.x = x ∧ t.y = y
    · exact ih (by simpa using hin) hmem (fun t ht => hv t (List.mem_cons_of_mem _ ht))
    · have hs : s.x = x ∧ s.y = y := by
        obtain ⟨t, ht, hxy⟩ := hm
        rcases List.mem_cons.mp ht with rfl | ht'
        · exact hxy
        · exact absurd ⟨t, ht', hxy⟩ hmem
      rw [get_paint_of_not_mem (fun t ht hxy => hmem ⟨t, ht, hxy⟩), get_put, if_pos ⟨hs.1.symm, hs.2.symm, by
        rw [hs.1, hs.2]; exact hin⟩, hv s List.mem_cons_self hs]

/-- Painting leaves every plane bit past the matrix alone. -/
theorem planeBit_paint_outside {q : QrMatrix} {ss : List Stroke} {p : Nat} (hp : q.size * q.size ≤ p) :
    planeBit (q.paint ss).value p = planeBit q.value p ∧
      planeBit (q.paint ss).functional p = planeBit q.functional p := by
  induction ss generalizing q with
  | nil => exact ⟨rfl, rfl⟩
  | cons s ss ih =>
    rw [paint_cons]
    have h := planeBit_put_outside (q := q) (x := s.x) (y := s.y) (v := s.v) (f := true) hp
    have h' := ih (q := q.put s.x s.y s.v true) (by simpa using hp)
    exact ⟨h'.1.trans h.1, h'.2.trans h.2⟩

end Sys2Proof.Machine
end

