-- ==== Sys2Proof/Laws/Memory.lean ====
section
/-! SUPPORT. The byte memories: a read after a write, and the canonical form, which every operation keeps. -/

namespace Sys2Proof.Machine

theorem Memory.lookup_insert (m : Memory) (a b : Nat) (v : Byte) :
    Memory.lookup (Memory.insert m a v) b = if b = a then some v else Memory.lookup m b := by
  induction m with
  | nil => simp [Memory.insert, Memory.lookup]
  | cons c rest ih =>
    simp only [Memory.insert]
    split
    · simp [Memory.lookup]
    · split
      · next h => subst h; by_cases hb : b = c.1 <;> simp [Memory.lookup, hb]
      · next h => by_cases hb : b = c.1 <;> simp [Memory.lookup, hb, ih]
                  intro h'; exact absurd h'.symm h

@[simp] theorem Memory.lookup_write_same {m : Memory} {a : Nat} {v : Byte} (h : isMemAddr a = true) :
    Memory.lookup (Memory.write m a v) a = some v := by
  simp [Memory.write, h, Memory.lookup_insert]

theorem Memory.lookup_write_other {m : Memory} {a b : Nat} {v : Byte} (h : b ≠ a) :
    Memory.lookup (Memory.write m a v) b = Memory.lookup m b := by
  unfold Memory.write; split
  · simp [Memory.lookup_insert, h]
  · rfl

theorem Memory.lookup_writeBytes_outside {bs : List Byte} {m : Memory} {a b : Nat}
    (h : b < a ∨ a + bs.length ≤ b) :
    Memory.lookup (Memory.writeBytes m a bs) b = Memory.lookup m b := by
  induction bs generalizing m a with
  | nil => rfl
  | cons v rest ih =>
    simp only [List.length_cons] at h
    rw [Memory.writeBytes, ih (by omega), Memory.lookup_write_other (by omega)]

theorem Memory.lookup_writeBytes_inside {bs : List Byte} {m : Memory} {a i : Nat} (hi : i < bs.length)
    (ha : isMemAddr (a + i) = true) :
    Memory.lookup (Memory.writeBytes m a bs) (a + i) = some bs[i] := by
  induction bs generalizing m a i with
  | nil => simp at hi
  | cons v rest ih =>
    rw [Memory.writeBytes]
    cases i with
    | zero =>
      rw [Memory.lookup_writeBytes_outside (by omega)]
      simpa using Memory.lookup_write_same (v := v) (m := m) (by simpa using ha)
    | succ i =>
      have h := ih (m := Memory.write m a v) (a := a + 1) (i := i) (by simpa using hi)
        (by rw [show a + 1 + i = a + (i + 1) by omega]; exact ha)
      rw [show a + (i + 1) = a + 1 + i by omega, h]; rfl

theorem Memory.above_insert {m : Memory} {k a : Nat} {v : Byte} (h : Memory.above k m = true) (ha : k < a) :
    Memory.above k (Memory.insert m a v) = true := by
  induction m with
  | nil => simpa [Memory.insert, Memory.above] using ha
  | cons c rest ih =>
    simp only [Memory.above, List.all_cons, Bool.and_eq_true, decide_eq_true_eq] at h
    have ih := ih (by simpa [Memory.above] using h.2)
    simp only [Memory.insert]
    split
    · simpa [Memory.above, ha] using h
    · split
      · simpa [Memory.above, ha] using h.2
      · simpa [Memory.above, h.1] using ih

theorem Memory.above_trans {m : Memory} {j k : Nat} (h : Memory.above k m = true) (hj : j ≤ k) :
    Memory.above j m = true := by
  simp only [Memory.above, List.all_eq_true, decide_eq_true_eq] at h ⊢
  intro c hc; have := h c hc; omega

theorem Memory.wf_insert {m : Memory} {a : Nat} {v : Byte} (h : Memory.wf m = true) (ha : isMemAddr a = true) :
    Memory.wf (Memory.insert m a v) = true := by
  induction m with
  | nil => simp [Memory.insert, Memory.wf, Memory.above, ha]
  | cons c rest ih =>
    simp only [Memory.wf, Bool.and_eq_true] at h
    obtain ⟨⟨hc, hab⟩, hw⟩ := h
    simp only [Memory.insert]
    split
    · next hlt =>
      have : Memory.above a (c :: rest) = true := by
        have := Memory.above_trans hab (Nat.le_of_lt hlt)
        simp only [Memory.above] at this
        simp [Memory.above, hlt, this]
      simp [Memory.wf, ha, this, hc, hab, hw]
    · split
      · next heq => subst heq; simp [Memory.wf, ha, hab, hw]
      · next h1 h2 =>
        simp [Memory.wf, hc, Memory.above_insert hab (show c.1 < a by omega), ih hw]

/-- A write keeps the canonical form, wherever it goes. -/
theorem Memory.wf_write {m : Memory} {a : Nat} {v : Byte} (h : Memory.wf m = true) :
    Memory.wf (Memory.write m a v) = true := by
  unfold Memory.write; split
  · next ha => exact Memory.wf_insert h ha
  · exact h

/-- So does a run of writes. -/
theorem Memory.wf_writeBytes {bs : List Byte} {m : Memory} {a : Nat} (h : Memory.wf m = true) :
    Memory.wf (Memory.writeBytes m a bs) = true := by
  induction bs generalizing m a with
  | nil => exact h
  | cons v rest ih => exact ih (Memory.wf_write h)

theorem Memory.lookup_none_of_above {m : Memory} {k a : Nat} (h : Memory.above k m = true) (ha : a ≤ k) :
    Memory.lookup m a = none := by
  induction m with
  | nil => rfl
  | cons c rest ih =>
    simp only [Memory.above, List.all_cons, Bool.and_eq_true, decide_eq_true_eq] at h
    simp only [Memory.lookup]
    rw [if_neg (by omega)]
    exact ih (by simpa [Memory.above] using h.2)

/-- Canonical memories that read the same everywhere are the same list. -/
theorem Memory.ext_of_wf {m n : Memory} (hm : Memory.wf m = true) (hn : Memory.wf n = true)
    (h : ∀ a, Memory.lookup m a = Memory.lookup n a) : m = n := by
  induction m generalizing n with
  | nil =>
    cases n with
    | nil => rfl
    | cons d ns => have := h d.1; simp [Memory.lookup] at this
  | cons c ms ih =>
    simp only [Memory.wf, Bool.and_eq_true] at hm
    obtain ⟨⟨-, hca⟩, hmw⟩ := hm
    cases n with
    | nil => have := h c.1; simp [Memory.lookup] at this
    | cons d ns =>
      simp only [Memory.wf, Bool.and_eq_true] at hn
      obtain ⟨⟨-, hda⟩, hnw⟩ := hn
      have key : c.1 = d.1 := by
        rcases Nat.lt_trichotomy c.1 d.1 with hlt | heq | hgt
        · have h1 := h c.1
          simp only [Memory.lookup, if_true] at h1
          rw [if_neg (by omega), Memory.lookup_none_of_above hda (by omega)] at h1
          simp at h1
        · exact heq
        · have h1 := h d.1
          simp only [Memory.lookup, if_true] at h1
          rw [if_neg (by omega), Memory.lookup_none_of_above hca (by omega)] at h1
          simp at h1
      have hv : c.2 = d.2 := by
        have h1 := h c.1
        simpa [Memory.lookup, key] using h1
      have hcd : c = d := Prod.ext key hv
      subst hcd
      congr 1
      apply ih hmw hnw
      intro a
      by_cases hac : a = c.1
      · subst hac
        rw [Memory.lookup_none_of_above hca (Nat.le_refl _), Memory.lookup_none_of_above hda (Nat.le_refl _)]
      · simpa [Memory.lookup, hac] using h a

end Sys2Proof.Machine
end

