-- ==== Sys2Proof/Laws/State.lean ====
section
/-! SUPPORT. Each field of State after each named update, by definition: later proofs rewrite with these and unfold no
record update. -/

namespace Sys2Proof.Machine

variable (s : State)

/-! ### withCmd -/

@[simp] theorem State.withCmd_cmd (w : Word) : (s.withCmd w).cmd = w := rfl
@[simp] theorem State.withCmd_status (w : Word) : (s.withCmd w).status = s.status := rfl
@[simp] theorem State.withCmd_cfg (w : Word) : (s.withCmd w).cfg = s.cfg := rfl
@[simp] theorem State.withCmd_arg0 (w : Word) : (s.withCmd w).arg0 = s.arg0 := rfl
@[simp] theorem State.withCmd_arg1 (w : Word) : (s.withCmd w).arg1 = s.arg1 := rfl
@[simp] theorem State.withCmd_arg2 (w : Word) : (s.withCmd w).arg2 = s.arg2 := rfl
@[simp] theorem State.withCmd_result (w : Word) : (s.withCmd w).result = s.result := rfl
@[simp] theorem State.withCmd_dataLen (w : Word) : (s.withCmd w).dataLen = s.dataLen := rfl
@[simp] theorem State.withCmd_streamLen (w : Word) : (s.withCmd w).streamLen = s.streamLen := rfl
@[simp] theorem State.withCmd_matrix (w : Word) : (s.withCmd w).matrix = s.matrix := rfl
@[simp] theorem State.withCmd_walkCount (w : Word) : (s.withCmd w).walkCount = s.walkCount := rfl
@[simp] theorem State.withCmd_walkMods (w : Word) : (s.withCmd w).walkMods = s.walkMods := rfl
@[simp] theorem State.withCmd_walkPos (w : Word) : (s.withCmd w).walkPos = s.walkPos := rfl
@[simp] theorem State.withCmd_mem (w : Word) : (s.withCmd w).mem = s.mem := rfl
@[simp] theorem State.withCmd_engine (w : Word) : (s.withCmd w).engine = s.engine := rfl
@[simp] theorem State.withCmd_rsp (w : Word) : (s.withCmd w).rsp = s.rsp := rfl
@[simp] theorem State.withCmd_turns (w : Word) : (s.withCmd w).turns = s.turns := rfl
@[simp] theorem State.withCmd_epoch (w : Word) : (s.withCmd w).epoch = s.epoch := rfl
@[simp] theorem State.withCmd_draws (w : Word) : (s.withCmd w).draws = s.draws := rfl
@[simp] theorem State.withCmd_params (w : Word) : (s.withCmd w).params = s.params := rfl

/-! ### withStatus -/

@[simp] theorem State.withStatus_cmd (st : Status) : (s.withStatus st).cmd = s.cmd := rfl
@[simp] theorem State.withStatus_status (st : Status) : (s.withStatus st).status = st := rfl
@[simp] theorem State.withStatus_cfg (st : Status) : (s.withStatus st).cfg = s.cfg := rfl
@[simp] theorem State.withStatus_arg0 (st : Status) : (s.withStatus st).arg0 = s.arg0 := rfl
@[simp] theorem State.withStatus_arg1 (st : Status) : (s.withStatus st).arg1 = s.arg1 := rfl
@[simp] theorem State.withStatus_arg2 (st : Status) : (s.withStatus st).arg2 = s.arg2 := rfl
@[simp] theorem State.withStatus_result (st : Status) : (s.withStatus st).result = s.result := rfl
@[simp] theorem State.withStatus_dataLen (st : Status) : (s.withStatus st).dataLen = s.dataLen := rfl
@[simp] theorem State.withStatus_streamLen (st : Status) : (s.withStatus st).streamLen = s.streamLen := rfl
@[simp] theorem State.withStatus_matrix (st : Status) : (s.withStatus st).matrix = s.matrix := rfl
@[simp] theorem State.withStatus_walkCount (st : Status) : (s.withStatus st).walkCount = s.walkCount := rfl
@[simp] theorem State.withStatus_walkMods (st : Status) : (s.withStatus st).walkMods = s.walkMods := rfl
@[simp] theorem State.withStatus_walkPos (st : Status) : (s.withStatus st).walkPos = s.walkPos := rfl
@[simp] theorem State.withStatus_mem (st : Status) : (s.withStatus st).mem = s.mem := rfl
@[simp] theorem State.withStatus_engine (st : Status) : (s.withStatus st).engine = s.engine := rfl
@[simp] theorem State.withStatus_rsp (st : Status) : (s.withStatus st).rsp = s.rsp := rfl
@[simp] theorem State.withStatus_turns (st : Status) : (s.withStatus st).turns = s.turns := rfl
@[simp] theorem State.withStatus_epoch (st : Status) : (s.withStatus st).epoch = s.epoch := rfl
@[simp] theorem State.withStatus_draws (st : Status) : (s.withStatus st).draws = s.draws := rfl
@[simp] theorem State.withStatus_params (st : Status) : (s.withStatus st).params = s.params := rfl

/-! ### withCfg -/

@[simp] theorem State.withCfg_cmd (c : Cfg) : (s.withCfg c).cmd = s.cmd := rfl
@[simp] theorem State.withCfg_status (c : Cfg) : (s.withCfg c).status = s.status := rfl
@[simp] theorem State.withCfg_cfg (c : Cfg) : (s.withCfg c).cfg = c := rfl
@[simp] theorem State.withCfg_arg0 (c : Cfg) : (s.withCfg c).arg0 = s.arg0 := rfl
@[simp] theorem State.withCfg_arg1 (c : Cfg) : (s.withCfg c).arg1 = s.arg1 := rfl
@[simp] theorem State.withCfg_arg2 (c : Cfg) : (s.withCfg c).arg2 = s.arg2 := rfl
@[simp] theorem State.withCfg_result (c : Cfg) : (s.withCfg c).result = s.result := rfl
@[simp] theorem State.withCfg_dataLen (c : Cfg) : (s.withCfg c).dataLen = s.dataLen := rfl
@[simp] theorem State.withCfg_streamLen (c : Cfg) : (s.withCfg c).streamLen = s.streamLen := rfl
@[simp] theorem State.withCfg_matrix (c : Cfg) : (s.withCfg c).matrix = s.matrix := rfl
@[simp] theorem State.withCfg_walkCount (c : Cfg) : (s.withCfg c).walkCount = s.walkCount := rfl
@[simp] theorem State.withCfg_walkMods (c : Cfg) : (s.withCfg c).walkMods = s.walkMods := rfl
@[simp] theorem State.withCfg_walkPos (c : Cfg) : (s.withCfg c).walkPos = s.walkPos := rfl
@[simp] theorem State.withCfg_mem (c : Cfg) : (s.withCfg c).mem = s.mem := rfl
@[simp] theorem State.withCfg_engine (c : Cfg) : (s.withCfg c).engine = s.engine := rfl
@[simp] theorem State.withCfg_rsp (c : Cfg) : (s.withCfg c).rsp = s.rsp := rfl
@[simp] theorem State.withCfg_turns (c : Cfg) : (s.withCfg c).turns = s.turns := rfl
@[simp] theorem State.withCfg_epoch (c : Cfg) : (s.withCfg c).epoch = s.epoch := rfl
@[simp] theorem State.withCfg_draws (c : Cfg) : (s.withCfg c).draws = s.draws := rfl
@[simp] theorem State.withCfg_params (c : Cfg) : (s.withCfg c).params = s.params := rfl

/-! ### withArg0 -/

@[simp] theorem State.withArg0_cmd (v : BitVec 16) : (s.withArg0 v).cmd = s.cmd := rfl
@[simp] theorem State.withArg0_status (v : BitVec 16) : (s.withArg0 v).status = s.status := rfl
@[simp] theorem State.withArg0_cfg (v : BitVec 16) : (s.withArg0 v).cfg = s.cfg := rfl
@[simp] theorem State.withArg0_arg0 (v : BitVec 16) : (s.withArg0 v).arg0 = v := rfl
@[simp] theorem State.withArg0_arg1 (v : BitVec 16) : (s.withArg0 v).arg1 = s.arg1 := rfl
@[simp] theorem State.withArg0_arg2 (v : BitVec 16) : (s.withArg0 v).arg2 = s.arg2 := rfl
@[simp] theorem State.withArg0_result (v : BitVec 16) : (s.withArg0 v).result = s.result := rfl
@[simp] theorem State.withArg0_dataLen (v : BitVec 16) : (s.withArg0 v).dataLen = s.dataLen := rfl
@[simp] theorem State.withArg0_streamLen (v : BitVec 16) : (s.withArg0 v).streamLen = s.streamLen := rfl
@[simp] theorem State.withArg0_matrix (v : BitVec 16) : (s.withArg0 v).matrix = s.matrix := rfl
@[simp] theorem State.withArg0_walkCount (v : BitVec 16) : (s.withArg0 v).walkCount = s.walkCount := rfl
@[simp] theorem State.withArg0_walkMods (v : BitVec 16) : (s.withArg0 v).walkMods = s.walkMods := rfl
@[simp] theorem State.withArg0_walkPos (v : BitVec 16) : (s.withArg0 v).walkPos = s.walkPos := rfl
@[simp] theorem State.withArg0_mem (v : BitVec 16) : (s.withArg0 v).mem = s.mem := rfl
@[simp] theorem State.withArg0_engine (v : BitVec 16) : (s.withArg0 v).engine = s.engine := rfl
@[simp] theorem State.withArg0_rsp (v : BitVec 16) : (s.withArg0 v).rsp = s.rsp := rfl
@[simp] theorem State.withArg0_turns (v : BitVec 16) : (s.withArg0 v).turns = s.turns := rfl
@[simp] theorem State.withArg0_epoch (v : BitVec 16) : (s.withArg0 v).epoch = s.epoch := rfl
@[simp] theorem State.withArg0_draws (v : BitVec 16) : (s.withArg0 v).draws = s.draws := rfl
@[simp] theorem State.withArg0_params (v : BitVec 16) : (s.withArg0 v).params = s.params := rfl

/-! ### withArg1 -/

@[simp] theorem State.withArg1_cmd (v : BitVec 16) : (s.withArg1 v).cmd = s.cmd := rfl
@[simp] theorem State.withArg1_status (v : BitVec 16) : (s.withArg1 v).status = s.status := rfl
@[simp] theorem State.withArg1_cfg (v : BitVec 16) : (s.withArg1 v).cfg = s.cfg := rfl
@[simp] theorem State.withArg1_arg0 (v : BitVec 16) : (s.withArg1 v).arg0 = s.arg0 := rfl
@[simp] theorem State.withArg1_arg1 (v : BitVec 16) : (s.withArg1 v).arg1 = v := rfl
@[simp] theorem State.withArg1_arg2 (v : BitVec 16) : (s.withArg1 v).arg2 = s.arg2 := rfl
@[simp] theorem State.withArg1_result (v : BitVec 16) : (s.withArg1 v).result = s.result := rfl
@[simp] theorem State.withArg1_dataLen (v : BitVec 16) : (s.withArg1 v).dataLen = s.dataLen := rfl
@[simp] theorem State.withArg1_streamLen (v : BitVec 16) : (s.withArg1 v).streamLen = s.streamLen := rfl
@[simp] theorem State.withArg1_matrix (v : BitVec 16) : (s.withArg1 v).matrix = s.matrix := rfl
@[simp] theorem State.withArg1_walkCount (v : BitVec 16) : (s.withArg1 v).walkCount = s.walkCount := rfl
@[simp] theorem State.withArg1_walkMods (v : BitVec 16) : (s.withArg1 v).walkMods = s.walkMods := rfl
@[simp] theorem State.withArg1_walkPos (v : BitVec 16) : (s.withArg1 v).walkPos = s.walkPos := rfl
@[simp] theorem State.withArg1_mem (v : BitVec 16) : (s.withArg1 v).mem = s.mem := rfl
@[simp] theorem State.withArg1_engine (v : BitVec 16) : (s.withArg1 v).engine = s.engine := rfl
@[simp] theorem State.withArg1_rsp (v : BitVec 16) : (s.withArg1 v).rsp = s.rsp := rfl
@[simp] theorem State.withArg1_turns (v : BitVec 16) : (s.withArg1 v).turns = s.turns := rfl
@[simp] theorem State.withArg1_epoch (v : BitVec 16) : (s.withArg1 v).epoch = s.epoch := rfl
@[simp] theorem State.withArg1_draws (v : BitVec 16) : (s.withArg1 v).draws = s.draws := rfl
@[simp] theorem State.withArg1_params (v : BitVec 16) : (s.withArg1 v).params = s.params := rfl

/-! ### withArg2 -/

@[simp] theorem State.withArg2_cmd (v : BitVec 16) : (s.withArg2 v).cmd = s.cmd := rfl
@[simp] theorem State.withArg2_status (v : BitVec 16) : (s.withArg2 v).status = s.status := rfl
@[simp] theorem State.withArg2_cfg (v : BitVec 16) : (s.withArg2 v).cfg = s.cfg := rfl
@[simp] theorem State.withArg2_arg0 (v : BitVec 16) : (s.withArg2 v).arg0 = s.arg0 := rfl
@[simp] theorem State.withArg2_arg1 (v : BitVec 16) : (s.withArg2 v).arg1 = s.arg1 := rfl
@[simp] theorem State.withArg2_arg2 (v : BitVec 16) : (s.withArg2 v).arg2 = v := rfl
@[simp] theorem State.withArg2_result (v : BitVec 16) : (s.withArg2 v).result = s.result := rfl
@[simp] theorem State.withArg2_dataLen (v : BitVec 16) : (s.withArg2 v).dataLen = s.dataLen := rfl
@[simp] theorem State.withArg2_streamLen (v : BitVec 16) : (s.withArg2 v).streamLen = s.streamLen := rfl
@[simp] theorem State.withArg2_matrix (v : BitVec 16) : (s.withArg2 v).matrix = s.matrix := rfl
@[simp] theorem State.withArg2_walkCount (v : BitVec 16) : (s.withArg2 v).walkCount = s.walkCount := rfl
@[simp] theorem State.withArg2_walkMods (v : BitVec 16) : (s.withArg2 v).walkMods = s.walkMods := rfl
@[simp] theorem State.withArg2_walkPos (v : BitVec 16) : (s.withArg2 v).walkPos = s.walkPos := rfl
@[simp] theorem State.withArg2_mem (v : BitVec 16) : (s.withArg2 v).mem = s.mem := rfl
@[simp] theorem State.withArg2_engine (v : BitVec 16) : (s.withArg2 v).engine = s.engine := rfl
@[simp] theorem State.withArg2_rsp (v : BitVec 16) : (s.withArg2 v).rsp = s.rsp := rfl
@[simp] theorem State.withArg2_turns (v : BitVec 16) : (s.withArg2 v).turns = s.turns := rfl
@[simp] theorem State.withArg2_epoch (v : BitVec 16) : (s.withArg2 v).epoch = s.epoch := rfl
@[simp] theorem State.withArg2_draws (v : BitVec 16) : (s.withArg2 v).draws = s.draws := rfl
@[simp] theorem State.withArg2_params (v : BitVec 16) : (s.withArg2 v).params = s.params := rfl

/-! ### withResult -/

@[simp] theorem State.withResult_cmd (r : Result) : (s.withResult r).cmd = s.cmd := rfl
@[simp] theorem State.withResult_status (r : Result) : (s.withResult r).status = s.status := rfl
@[simp] theorem State.withResult_cfg (r : Result) : (s.withResult r).cfg = s.cfg := rfl
@[simp] theorem State.withResult_arg0 (r : Result) : (s.withResult r).arg0 = s.arg0 := rfl
@[simp] theorem State.withResult_arg1 (r : Result) : (s.withResult r).arg1 = s.arg1 := rfl
@[simp] theorem State.withResult_arg2 (r : Result) : (s.withResult r).arg2 = s.arg2 := rfl
@[simp] theorem State.withResult_result (r : Result) : (s.withResult r).result = r := rfl
@[simp] theorem State.withResult_dataLen (r : Result) : (s.withResult r).dataLen = s.dataLen := rfl
@[simp] theorem State.withResult_streamLen (r : Result) : (s.withResult r).streamLen = s.streamLen := rfl
@[simp] theorem State.withResult_matrix (r : Result) : (s.withResult r).matrix = s.matrix := rfl
@[simp] theorem State.withResult_walkCount (r : Result) : (s.withResult r).walkCount = s.walkCount := rfl
@[simp] theorem State.withResult_walkMods (r : Result) : (s.withResult r).walkMods = s.walkMods := rfl
@[simp] theorem State.withResult_walkPos (r : Result) : (s.withResult r).walkPos = s.walkPos := rfl
@[simp] theorem State.withResult_mem (r : Result) : (s.withResult r).mem = s.mem := rfl
@[simp] theorem State.withResult_engine (r : Result) : (s.withResult r).engine = s.engine := rfl
@[simp] theorem State.withResult_rsp (r : Result) : (s.withResult r).rsp = s.rsp := rfl
@[simp] theorem State.withResult_turns (r : Result) : (s.withResult r).turns = s.turns := rfl
@[simp] theorem State.withResult_epoch (r : Result) : (s.withResult r).epoch = s.epoch := rfl
@[simp] theorem State.withResult_draws (r : Result) : (s.withResult r).draws = s.draws := rfl
@[simp] theorem State.withResult_params (r : Result) : (s.withResult r).params = s.params := rfl

/-! ### withDataLen -/

@[simp] theorem State.withDataLen_cmd (v : BitVec 13) : (s.withDataLen v).cmd = s.cmd := rfl
@[simp] theorem State.withDataLen_status (v : BitVec 13) : (s.withDataLen v).status = s.status := rfl
@[simp] theorem State.withDataLen_cfg (v : BitVec 13) : (s.withDataLen v).cfg = s.cfg := rfl
@[simp] theorem State.withDataLen_arg0 (v : BitVec 13) : (s.withDataLen v).arg0 = s.arg0 := rfl
@[simp] theorem State.withDataLen_arg1 (v : BitVec 13) : (s.withDataLen v).arg1 = s.arg1 := rfl
@[simp] theorem State.withDataLen_arg2 (v : BitVec 13) : (s.withDataLen v).arg2 = s.arg2 := rfl
@[simp] theorem State.withDataLen_result (v : BitVec 13) : (s.withDataLen v).result = s.result := rfl
@[simp] theorem State.withDataLen_dataLen (v : BitVec 13) : (s.withDataLen v).dataLen = v := rfl
@[simp] theorem State.withDataLen_streamLen (v : BitVec 13) : (s.withDataLen v).streamLen = s.streamLen := rfl
@[simp] theorem State.withDataLen_matrix (v : BitVec 13) : (s.withDataLen v).matrix = s.matrix := rfl
@[simp] theorem State.withDataLen_walkCount (v : BitVec 13) : (s.withDataLen v).walkCount = s.walkCount := rfl
@[simp] theorem State.withDataLen_walkMods (v : BitVec 13) : (s.withDataLen v).walkMods = s.walkMods := rfl
@[simp] theorem State.withDataLen_walkPos (v : BitVec 13) : (s.withDataLen v).walkPos = s.walkPos := rfl
@[simp] theorem State.withDataLen_mem (v : BitVec 13) : (s.withDataLen v).mem = s.mem := rfl
@[simp] theorem State.withDataLen_engine (v : BitVec 13) : (s.withDataLen v).engine = s.engine := rfl
@[simp] theorem State.withDataLen_rsp (v : BitVec 13) : (s.withDataLen v).rsp = s.rsp := rfl
@[simp] theorem State.withDataLen_turns (v : BitVec 13) : (s.withDataLen v).turns = s.turns := rfl
@[simp] theorem State.withDataLen_epoch (v : BitVec 13) : (s.withDataLen v).epoch = s.epoch := rfl
@[simp] theorem State.withDataLen_draws (v : BitVec 13) : (s.withDataLen v).draws = s.draws := rfl
@[simp] theorem State.withDataLen_params (v : BitVec 13) : (s.withDataLen v).params = s.params := rfl

/-! ### withStreamLen -/

@[simp] theorem State.withStreamLen_cmd (v : BitVec 13) : (s.withStreamLen v).cmd = s.cmd := rfl
@[simp] theorem State.withStreamLen_status (v : BitVec 13) : (s.withStreamLen v).status = s.status := rfl
@[simp] theorem State.withStreamLen_cfg (v : BitVec 13) : (s.withStreamLen v).cfg = s.cfg := rfl
@[simp] theorem State.withStreamLen_arg0 (v : BitVec 13) : (s.withStreamLen v).arg0 = s.arg0 := rfl
@[simp] theorem State.withStreamLen_arg1 (v : BitVec 13) : (s.withStreamLen v).arg1 = s.arg1 := rfl
@[simp] theorem State.withStreamLen_arg2 (v : BitVec 13) : (s.withStreamLen v).arg2 = s.arg2 := rfl
@[simp] theorem State.withStreamLen_result (v : BitVec 13) : (s.withStreamLen v).result = s.result := rfl
@[simp] theorem State.withStreamLen_dataLen (v : BitVec 13) : (s.withStreamLen v).dataLen = s.dataLen := rfl
@[simp] theorem State.withStreamLen_streamLen (v : BitVec 13) : (s.withStreamLen v).streamLen = v := rfl
@[simp] theorem State.withStreamLen_matrix (v : BitVec 13) : (s.withStreamLen v).matrix = s.matrix := rfl
@[simp] theorem State.withStreamLen_walkCount (v : BitVec 13) : (s.withStreamLen v).walkCount = s.walkCount := rfl
@[simp] theorem State.withStreamLen_walkMods (v : BitVec 13) : (s.withStreamLen v).walkMods = s.walkMods := rfl
@[simp] theorem State.withStreamLen_walkPos (v : BitVec 13) : (s.withStreamLen v).walkPos = s.walkPos := rfl
@[simp] theorem State.withStreamLen_mem (v : BitVec 13) : (s.withStreamLen v).mem = s.mem := rfl
@[simp] theorem State.withStreamLen_engine (v : BitVec 13) : (s.withStreamLen v).engine = s.engine := rfl
@[simp] theorem State.withStreamLen_rsp (v : BitVec 13) : (s.withStreamLen v).rsp = s.rsp := rfl
@[simp] theorem State.withStreamLen_turns (v : BitVec 13) : (s.withStreamLen v).turns = s.turns := rfl
@[simp] theorem State.withStreamLen_epoch (v : BitVec 13) : (s.withStreamLen v).epoch = s.epoch := rfl
@[simp] theorem State.withStreamLen_draws (v : BitVec 13) : (s.withStreamLen v).draws = s.draws := rfl
@[simp] theorem State.withStreamLen_params (v : BitVec 13) : (s.withStreamLen v).params = s.params := rfl

/-! ### withMatrix -/

@[simp] theorem State.withMatrix_cmd (q : Option QrMatrix) : (s.withMatrix q).cmd = s.cmd := rfl
@[simp] theorem State.withMatrix_status (q : Option QrMatrix) : (s.withMatrix q).status = s.status := rfl
@[simp] theorem State.withMatrix_cfg (q : Option QrMatrix) : (s.withMatrix q).cfg = s.cfg := rfl
@[simp] theorem State.withMatrix_arg0 (q : Option QrMatrix) : (s.withMatrix q).arg0 = s.arg0 := rfl
@[simp] theorem State.withMatrix_arg1 (q : Option QrMatrix) : (s.withMatrix q).arg1 = s.arg1 := rfl
@[simp] theorem State.withMatrix_arg2 (q : Option QrMatrix) : (s.withMatrix q).arg2 = s.arg2 := rfl
@[simp] theorem State.withMatrix_result (q : Option QrMatrix) : (s.withMatrix q).result = s.result := rfl
@[simp] theorem State.withMatrix_dataLen (q : Option QrMatrix) : (s.withMatrix q).dataLen = s.dataLen := rfl
@[simp] theorem State.withMatrix_streamLen (q : Option QrMatrix) : (s.withMatrix q).streamLen = s.streamLen := rfl
@[simp] theorem State.withMatrix_matrix (q : Option QrMatrix) : (s.withMatrix q).matrix = q := rfl
@[simp] theorem State.withMatrix_walkCount (q : Option QrMatrix) : (s.withMatrix q).walkCount = s.walkCount := rfl
@[simp] theorem State.withMatrix_walkMods (q : Option QrMatrix) : (s.withMatrix q).walkMods = s.walkMods := rfl
@[simp] theorem State.withMatrix_walkPos (q : Option QrMatrix) : (s.withMatrix q).walkPos = s.walkPos := rfl
@[simp] theorem State.withMatrix_mem (q : Option QrMatrix) : (s.withMatrix q).mem = s.mem := rfl
@[simp] theorem State.withMatrix_engine (q : Option QrMatrix) : (s.withMatrix q).engine = s.engine := rfl
@[simp] theorem State.withMatrix_rsp (q : Option QrMatrix) : (s.withMatrix q).rsp = s.rsp := rfl
@[simp] theorem State.withMatrix_turns (q : Option QrMatrix) : (s.withMatrix q).turns = s.turns := rfl
@[simp] theorem State.withMatrix_epoch (q : Option QrMatrix) : (s.withMatrix q).epoch = s.epoch := rfl
@[simp] theorem State.withMatrix_draws (q : Option QrMatrix) : (s.withMatrix q).draws = s.draws := rfl
@[simp] theorem State.withMatrix_params (q : Option QrMatrix) : (s.withMatrix q).params = s.params := rfl

/-! ### withWalk -/

@[simp] theorem State.withWalk_cmd (n m : BitVec 16) (p : WalkPos) : (s.withWalk n m p).cmd = s.cmd := rfl
@[simp] theorem State.withWalk_status (n m : BitVec 16) (p : WalkPos) : (s.withWalk n m p).status = s.status := rfl
@[simp] theorem State.withWalk_cfg (n m : BitVec 16) (p : WalkPos) : (s.withWalk n m p).cfg = s.cfg := rfl
@[simp] theorem State.withWalk_arg0 (n m : BitVec 16) (p : WalkPos) : (s.withWalk n m p).arg0 = s.arg0 := rfl
@[simp] theorem State.withWalk_arg1 (n m : BitVec 16) (p : WalkPos) : (s.withWalk n m p).arg1 = s.arg1 := rfl
@[simp] theorem State.withWalk_arg2 (n m : BitVec 16) (p : WalkPos) : (s.withWalk n m p).arg2 = s.arg2 := rfl
@[simp] theorem State.withWalk_result (n m : BitVec 16) (p : WalkPos) : (s.withWalk n m p).result = s.result := rfl
@[simp] theorem State.withWalk_dataLen (n m : BitVec 16) (p : WalkPos) : (s.withWalk n m p).dataLen = s.dataLen := rfl
@[simp] theorem State.withWalk_streamLen (n m : BitVec 16) (p : WalkPos) : (s.withWalk n m p).streamLen = s.streamLen := rfl
@[simp] theorem State.withWalk_matrix (n m : BitVec 16) (p : WalkPos) : (s.withWalk n m p).matrix = s.matrix := rfl
@[simp] theorem State.withWalk_walkCount (n m : BitVec 16) (p : WalkPos) : (s.withWalk n m p).walkCount = n := rfl
@[simp] theorem State.withWalk_walkMods (n m : BitVec 16) (p : WalkPos) : (s.withWalk n m p).walkMods = m := rfl
@[simp] theorem State.withWalk_walkPos (n m : BitVec 16) (p : WalkPos) : (s.withWalk n m p).walkPos = p := rfl
@[simp] theorem State.withWalk_mem (n m : BitVec 16) (p : WalkPos) : (s.withWalk n m p).mem = s.mem := rfl
@[simp] theorem State.withWalk_engine (n m : BitVec 16) (p : WalkPos) : (s.withWalk n m p).engine = s.engine := rfl
@[simp] theorem State.withWalk_rsp (n m : BitVec 16) (p : WalkPos) : (s.withWalk n m p).rsp = s.rsp := rfl
@[simp] theorem State.withWalk_turns (n m : BitVec 16) (p : WalkPos) : (s.withWalk n m p).turns = s.turns := rfl
@[simp] theorem State.withWalk_epoch (n m : BitVec 16) (p : WalkPos) : (s.withWalk n m p).epoch = s.epoch := rfl
@[simp] theorem State.withWalk_draws (n m : BitVec 16) (p : WalkPos) : (s.withWalk n m p).draws = s.draws := rfl
@[simp] theorem State.withWalk_params (n m : BitVec 16) (p : WalkPos) : (s.withWalk n m p).params = s.params := rfl

/-! ### withMem -/

@[simp] theorem State.withMem_cmd (m : Memory) : (s.withMem m).cmd = s.cmd := rfl
@[simp] theorem State.withMem_status (m : Memory) : (s.withMem m).status = s.status := rfl
@[simp] theorem State.withMem_cfg (m : Memory) : (s.withMem m).cfg = s.cfg := rfl
@[simp] theorem State.withMem_arg0 (m : Memory) : (s.withMem m).arg0 = s.arg0 := rfl
@[simp] theorem State.withMem_arg1 (m : Memory) : (s.withMem m).arg1 = s.arg1 := rfl
@[simp] theorem State.withMem_arg2 (m : Memory) : (s.withMem m).arg2 = s.arg2 := rfl
@[simp] theorem State.withMem_result (m : Memory) : (s.withMem m).result = s.result := rfl
@[simp] theorem State.withMem_dataLen (m : Memory) : (s.withMem m).dataLen = s.dataLen := rfl
@[simp] theorem State.withMem_streamLen (m : Memory) : (s.withMem m).streamLen = s.streamLen := rfl
@[simp] theorem State.withMem_matrix (m : Memory) : (s.withMem m).matrix = s.matrix := rfl
@[simp] theorem State.withMem_walkCount (m : Memory) : (s.withMem m).walkCount = s.walkCount := rfl
@[simp] theorem State.withMem_walkMods (m : Memory) : (s.withMem m).walkMods = s.walkMods := rfl
@[simp] theorem State.withMem_walkPos (m : Memory) : (s.withMem m).walkPos = s.walkPos := rfl
@[simp] theorem State.withMem_mem (m : Memory) : (s.withMem m).mem = m := rfl
@[simp] theorem State.withMem_engine (m : Memory) : (s.withMem m).engine = s.engine := rfl
@[simp] theorem State.withMem_rsp (m : Memory) : (s.withMem m).rsp = s.rsp := rfl
@[simp] theorem State.withMem_turns (m : Memory) : (s.withMem m).turns = s.turns := rfl
@[simp] theorem State.withMem_epoch (m : Memory) : (s.withMem m).epoch = s.epoch := rfl
@[simp] theorem State.withMem_draws (m : Memory) : (s.withMem m).draws = s.draws := rfl
@[simp] theorem State.withMem_params (m : Memory) : (s.withMem m).params = s.params := rfl

/-! ### withEngine -/

@[simp] theorem State.withEngine_cmd (e : Engine) : (s.withEngine e).cmd = s.cmd := rfl
@[simp] theorem State.withEngine_status (e : Engine) : (s.withEngine e).status = s.status := rfl
@[simp] theorem State.withEngine_cfg (e : Engine) : (s.withEngine e).cfg = s.cfg := rfl
@[simp] theorem State.withEngine_arg0 (e : Engine) : (s.withEngine e).arg0 = s.arg0 := rfl
@[simp] theorem State.withEngine_arg1 (e : Engine) : (s.withEngine e).arg1 = s.arg1 := rfl
@[simp] theorem State.withEngine_arg2 (e : Engine) : (s.withEngine e).arg2 = s.arg2 := rfl
@[simp] theorem State.withEngine_result (e : Engine) : (s.withEngine e).result = s.result := rfl
@[simp] theorem State.withEngine_dataLen (e : Engine) : (s.withEngine e).dataLen = s.dataLen := rfl
@[simp] theorem State.withEngine_streamLen (e : Engine) : (s.withEngine e).streamLen = s.streamLen := rfl
@[simp] theorem State.withEngine_matrix (e : Engine) : (s.withEngine e).matrix = s.matrix := rfl
@[simp] theorem State.withEngine_walkCount (e : Engine) : (s.withEngine e).walkCount = s.walkCount := rfl
@[simp] theorem State.withEngine_walkMods (e : Engine) : (s.withEngine e).walkMods = s.walkMods := rfl
@[simp] theorem State.withEngine_walkPos (e : Engine) : (s.withEngine e).walkPos = s.walkPos := rfl
@[simp] theorem State.withEngine_mem (e : Engine) : (s.withEngine e).mem = s.mem := rfl
@[simp] theorem State.withEngine_engine (e : Engine) : (s.withEngine e).engine = e := rfl
@[simp] theorem State.withEngine_rsp (e : Engine) : (s.withEngine e).rsp = s.rsp := rfl
@[simp] theorem State.withEngine_turns (e : Engine) : (s.withEngine e).turns = s.turns := rfl
@[simp] theorem State.withEngine_epoch (e : Engine) : (s.withEngine e).epoch = s.epoch := rfl
@[simp] theorem State.withEngine_draws (e : Engine) : (s.withEngine e).draws = s.draws := rfl
@[simp] theorem State.withEngine_params (e : Engine) : (s.withEngine e).params = s.params := rfl

/-! ### withTurns -/

@[simp] theorem State.withTurns_cmd (ts : List Turn) : (s.withTurns ts).cmd = s.cmd := rfl
@[simp] theorem State.withTurns_status (ts : List Turn) : (s.withTurns ts).status = s.status := rfl
@[simp] theorem State.withTurns_cfg (ts : List Turn) : (s.withTurns ts).cfg = s.cfg := rfl
@[simp] theorem State.withTurns_arg0 (ts : List Turn) : (s.withTurns ts).arg0 = s.arg0 := rfl
@[simp] theorem State.withTurns_arg1 (ts : List Turn) : (s.withTurns ts).arg1 = s.arg1 := rfl
@[simp] theorem State.withTurns_arg2 (ts : List Turn) : (s.withTurns ts).arg2 = s.arg2 := rfl
@[simp] theorem State.withTurns_result (ts : List Turn) : (s.withTurns ts).result = s.result := rfl
@[simp] theorem State.withTurns_dataLen (ts : List Turn) : (s.withTurns ts).dataLen = s.dataLen := rfl
@[simp] theorem State.withTurns_streamLen (ts : List Turn) : (s.withTurns ts).streamLen = s.streamLen := rfl
@[simp] theorem State.withTurns_matrix (ts : List Turn) : (s.withTurns ts).matrix = s.matrix := rfl
@[simp] theorem State.withTurns_walkCount (ts : List Turn) : (s.withTurns ts).walkCount = s.walkCount := rfl
@[simp] theorem State.withTurns_walkMods (ts : List Turn) : (s.withTurns ts).walkMods = s.walkMods := rfl
@[simp] theorem State.withTurns_walkPos (ts : List Turn) : (s.withTurns ts).walkPos = s.walkPos := rfl
@[simp] theorem State.withTurns_mem (ts : List Turn) : (s.withTurns ts).mem = s.mem := rfl
@[simp] theorem State.withTurns_engine (ts : List Turn) : (s.withTurns ts).engine = s.engine := rfl
@[simp] theorem State.withTurns_rsp (ts : List Turn) : (s.withTurns ts).rsp = s.rsp := rfl
@[simp] theorem State.withTurns_turns (ts : List Turn) : (s.withTurns ts).turns = ts := rfl
@[simp] theorem State.withTurns_epoch (ts : List Turn) : (s.withTurns ts).epoch = s.epoch := rfl
@[simp] theorem State.withTurns_draws (ts : List Turn) : (s.withTurns ts).draws = s.draws := rfl
@[simp] theorem State.withTurns_params (ts : List Turn) : (s.withTurns ts).params = s.params := rfl

/-! ### respond -/

@[simp] theorem State.respond_cmd (r : Response) : (s.respond r).cmd = s.cmd := rfl
@[simp] theorem State.respond_status (r : Response) : (s.respond r).status = s.status := rfl
@[simp] theorem State.respond_cfg (r : Response) : (s.respond r).cfg = s.cfg := rfl
@[simp] theorem State.respond_arg0 (r : Response) : (s.respond r).arg0 = s.arg0 := rfl
@[simp] theorem State.respond_arg1 (r : Response) : (s.respond r).arg1 = s.arg1 := rfl
@[simp] theorem State.respond_arg2 (r : Response) : (s.respond r).arg2 = s.arg2 := rfl
@[simp] theorem State.respond_result (r : Response) : (s.respond r).result = s.result := rfl
@[simp] theorem State.respond_dataLen (r : Response) : (s.respond r).dataLen = s.dataLen := rfl
@[simp] theorem State.respond_streamLen (r : Response) : (s.respond r).streamLen = s.streamLen := rfl
@[simp] theorem State.respond_matrix (r : Response) : (s.respond r).matrix = s.matrix := rfl
@[simp] theorem State.respond_walkCount (r : Response) : (s.respond r).walkCount = s.walkCount := rfl
@[simp] theorem State.respond_walkMods (r : Response) : (s.respond r).walkMods = s.walkMods := rfl
@[simp] theorem State.respond_walkPos (r : Response) : (s.respond r).walkPos = s.walkPos := rfl
@[simp] theorem State.respond_mem (r : Response) : (s.respond r).mem = s.mem := rfl
@[simp] theorem State.respond_engine (r : Response) : (s.respond r).engine = s.engine := rfl
@[simp] theorem State.respond_rsp (r : Response) : (s.respond r).rsp = some r := rfl
@[simp] theorem State.respond_turns (r : Response) : (s.respond r).turns = s.turns := rfl
@[simp] theorem State.respond_epoch (r : Response) : (s.respond r).epoch = s.epoch := rfl
@[simp] theorem State.respond_draws (r : Response) : (s.respond r).draws = s.draws + 1 := rfl
@[simp] theorem State.respond_params (r : Response) : (s.respond r).params = s.params := rfl

/-! ### startCommand -/

@[simp] theorem State.startCommand_cmd (w : Word) : (s.startCommand w).cmd = w := rfl
@[simp] theorem State.startCommand_status (w : Word) : (s.startCommand w).status = s.status.start := rfl
@[simp] theorem State.startCommand_cfg (w : Word) : (s.startCommand w).cfg = s.cfg := rfl
@[simp] theorem State.startCommand_arg0 (w : Word) : (s.startCommand w).arg0 = s.arg0 := rfl
@[simp] theorem State.startCommand_arg1 (w : Word) : (s.startCommand w).arg1 = s.arg1 := rfl
@[simp] theorem State.startCommand_arg2 (w : Word) : (s.startCommand w).arg2 = s.arg2 := rfl
@[simp] theorem State.startCommand_result (w : Word) : (s.startCommand w).result = s.result := rfl
@[simp] theorem State.startCommand_dataLen (w : Word) : (s.startCommand w).dataLen = s.dataLen := rfl
@[simp] theorem State.startCommand_streamLen (w : Word) : (s.startCommand w).streamLen = s.streamLen := rfl
@[simp] theorem State.startCommand_matrix (w : Word) : (s.startCommand w).matrix = s.matrix := rfl
@[simp] theorem State.startCommand_walkCount (w : Word) : (s.startCommand w).walkCount = s.walkCount := rfl
@[simp] theorem State.startCommand_walkMods (w : Word) : (s.startCommand w).walkMods = s.walkMods := rfl
@[simp] theorem State.startCommand_walkPos (w : Word) : (s.startCommand w).walkPos = s.walkPos := rfl
@[simp] theorem State.startCommand_mem (w : Word) : (s.startCommand w).mem = s.mem := rfl
@[simp] theorem State.startCommand_engine (w : Word) : (s.startCommand w).engine = s.engine := rfl
@[simp] theorem State.startCommand_rsp (w : Word) : (s.startCommand w).rsp = s.rsp := rfl
@[simp] theorem State.startCommand_turns (w : Word) : (s.startCommand w).turns = s.turns := rfl
@[simp] theorem State.startCommand_epoch (w : Word) : (s.startCommand w).epoch = s.epoch := rfl
@[simp] theorem State.startCommand_draws (w : Word) : (s.startCommand w).draws = s.draws := rfl
@[simp] theorem State.startCommand_params (w : Word) : (s.startCommand w).params = s.params := rfl

/-! ### complete -/

@[simp] theorem State.complete_cmd : s.complete.cmd = s.cmd := rfl
@[simp] theorem State.complete_status : s.complete.status = s.status.complete := rfl
@[simp] theorem State.complete_cfg : s.complete.cfg = s.cfg := rfl
@[simp] theorem State.complete_arg0 : s.complete.arg0 = s.arg0 := rfl
@[simp] theorem State.complete_arg1 : s.complete.arg1 = s.arg1 := rfl
@[simp] theorem State.complete_arg2 : s.complete.arg2 = s.arg2 := rfl
@[simp] theorem State.complete_result : s.complete.result = s.result := rfl
@[simp] theorem State.complete_dataLen : s.complete.dataLen = s.dataLen := rfl
@[simp] theorem State.complete_streamLen : s.complete.streamLen = s.streamLen := rfl
@[simp] theorem State.complete_matrix : s.complete.matrix = s.matrix := rfl
@[simp] theorem State.complete_walkCount : s.complete.walkCount = s.walkCount := rfl
@[simp] theorem State.complete_walkMods : s.complete.walkMods = s.walkMods := rfl
@[simp] theorem State.complete_walkPos : s.complete.walkPos = s.walkPos := rfl
@[simp] theorem State.complete_mem : s.complete.mem = s.mem := rfl
@[simp] theorem State.complete_engine : s.complete.engine = s.engine := rfl
@[simp] theorem State.complete_rsp : s.complete.rsp = s.rsp := rfl
@[simp] theorem State.complete_turns : s.complete.turns = s.turns := rfl
@[simp] theorem State.complete_epoch : s.complete.epoch = s.epoch := rfl
@[simp] theorem State.complete_draws : s.complete.draws = s.draws := rfl
@[simp] theorem State.complete_params : s.complete.params = s.params := rfl

/-! ### raiseCmdError -/

@[simp] theorem State.raiseCmdError_cmd (c : CmdError) : (s.raiseCmdError c).cmd = s.cmd := rfl
@[simp] theorem State.raiseCmdError_status (c : CmdError) : (s.raiseCmdError c).status = s.status.raise c := rfl
@[simp] theorem State.raiseCmdError_cfg (c : CmdError) : (s.raiseCmdError c).cfg = s.cfg := rfl
@[simp] theorem State.raiseCmdError_arg0 (c : CmdError) : (s.raiseCmdError c).arg0 = s.arg0 := rfl
@[simp] theorem State.raiseCmdError_arg1 (c : CmdError) : (s.raiseCmdError c).arg1 = s.arg1 := rfl
@[simp] theorem State.raiseCmdError_arg2 (c : CmdError) : (s.raiseCmdError c).arg2 = s.arg2 := rfl
@[simp] theorem State.raiseCmdError_result (c : CmdError) : (s.raiseCmdError c).result = s.result := rfl
@[simp] theorem State.raiseCmdError_dataLen (c : CmdError) : (s.raiseCmdError c).dataLen = s.dataLen := rfl
@[simp] theorem State.raiseCmdError_streamLen (c : CmdError) : (s.raiseCmdError c).streamLen = s.streamLen := rfl
@[simp] theorem State.raiseCmdError_matrix (c : CmdError) : (s.raiseCmdError c).matrix = s.matrix := rfl
@[simp] theorem State.raiseCmdError_walkCount (c : CmdError) : (s.raiseCmdError c).walkCount = s.walkCount := rfl
@[simp] theorem State.raiseCmdError_walkMods (c : CmdError) : (s.raiseCmdError c).walkMods = s.walkMods := rfl
@[simp] theorem State.raiseCmdError_walkPos (c : CmdError) : (s.raiseCmdError c).walkPos = s.walkPos := rfl
@[simp] theorem State.raiseCmdError_mem (c : CmdError) : (s.raiseCmdError c).mem = s.mem := rfl
@[simp] theorem State.raiseCmdError_engine (c : CmdError) : (s.raiseCmdError c).engine = s.engine := rfl
@[simp] theorem State.raiseCmdError_rsp (c : CmdError) : (s.raiseCmdError c).rsp = s.rsp := rfl
@[simp] theorem State.raiseCmdError_turns (c : CmdError) : (s.raiseCmdError c).turns = s.turns := rfl
@[simp] theorem State.raiseCmdError_epoch (c : CmdError) : (s.raiseCmdError c).epoch = s.epoch := rfl
@[simp] theorem State.raiseCmdError_draws (c : CmdError) : (s.raiseCmdError c).draws = s.draws := rfl
@[simp] theorem State.raiseCmdError_params (c : CmdError) : (s.raiseCmdError c).params = s.params := rfl

/-! ### ackCmdError -/

@[simp] theorem State.ackCmdError_cmd : s.ackCmdError.cmd = s.cmd := rfl
@[simp] theorem State.ackCmdError_status : s.ackCmdError.status = s.status.ackError := rfl
@[simp] theorem State.ackCmdError_cfg : s.ackCmdError.cfg = s.cfg := rfl
@[simp] theorem State.ackCmdError_arg0 : s.ackCmdError.arg0 = s.arg0 := rfl
@[simp] theorem State.ackCmdError_arg1 : s.ackCmdError.arg1 = s.arg1 := rfl
@[simp] theorem State.ackCmdError_arg2 : s.ackCmdError.arg2 = s.arg2 := rfl
@[simp] theorem State.ackCmdError_result : s.ackCmdError.result = s.result := rfl
@[simp] theorem State.ackCmdError_dataLen : s.ackCmdError.dataLen = s.dataLen := rfl
@[simp] theorem State.ackCmdError_streamLen : s.ackCmdError.streamLen = s.streamLen := rfl
@[simp] theorem State.ackCmdError_matrix : s.ackCmdError.matrix = s.matrix := rfl
@[simp] theorem State.ackCmdError_walkCount : s.ackCmdError.walkCount = s.walkCount := rfl
@[simp] theorem State.ackCmdError_walkMods : s.ackCmdError.walkMods = s.walkMods := rfl
@[simp] theorem State.ackCmdError_walkPos : s.ackCmdError.walkPos = s.walkPos := rfl
@[simp] theorem State.ackCmdError_mem : s.ackCmdError.mem = s.mem := rfl
@[simp] theorem State.ackCmdError_engine : s.ackCmdError.engine = s.engine := rfl
@[simp] theorem State.ackCmdError_rsp : s.ackCmdError.rsp = s.rsp := rfl
@[simp] theorem State.ackCmdError_turns : s.ackCmdError.turns = s.turns := rfl
@[simp] theorem State.ackCmdError_epoch : s.ackCmdError.epoch = s.epoch := rfl
@[simp] theorem State.ackCmdError_draws : s.ackCmdError.draws = s.draws := rfl
@[simp] theorem State.ackCmdError_params : s.ackCmdError.params = s.params := rfl

/-! ### storeBytes -/

@[simp] theorem State.storeBytes_cmd (a : Nat) (bs : List Byte) : (s.storeBytes a bs).cmd = s.cmd := rfl
@[simp] theorem State.storeBytes_status (a : Nat) (bs : List Byte) : (s.storeBytes a bs).status = s.status := rfl
@[simp] theorem State.storeBytes_cfg (a : Nat) (bs : List Byte) : (s.storeBytes a bs).cfg = s.cfg := rfl
@[simp] theorem State.storeBytes_arg0 (a : Nat) (bs : List Byte) : (s.storeBytes a bs).arg0 = s.arg0 := rfl
@[simp] theorem State.storeBytes_arg1 (a : Nat) (bs : List Byte) : (s.storeBytes a bs).arg1 = s.arg1 := rfl
@[simp] theorem State.storeBytes_arg2 (a : Nat) (bs : List Byte) : (s.storeBytes a bs).arg2 = s.arg2 := rfl
@[simp] theorem State.storeBytes_result (a : Nat) (bs : List Byte) : (s.storeBytes a bs).result = s.result := rfl
@[simp] theorem State.storeBytes_dataLen (a : Nat) (bs : List Byte) : (s.storeBytes a bs).dataLen = s.dataLen := rfl
@[simp] theorem State.storeBytes_streamLen (a : Nat) (bs : List Byte) : (s.storeBytes a bs).streamLen = s.streamLen := rfl
@[simp] theorem State.storeBytes_matrix (a : Nat) (bs : List Byte) : (s.storeBytes a bs).matrix = s.matrix := rfl
@[simp] theorem State.storeBytes_walkCount (a : Nat) (bs : List Byte) : (s.storeBytes a bs).walkCount = s.walkCount := rfl
@[simp] theorem State.storeBytes_walkMods (a : Nat) (bs : List Byte) : (s.storeBytes a bs).walkMods = s.walkMods := rfl
@[simp] theorem State.storeBytes_walkPos (a : Nat) (bs : List Byte) : (s.storeBytes a bs).walkPos = s.walkPos := rfl
@[simp] theorem State.storeBytes_mem (a : Nat) (bs : List Byte) : (s.storeBytes a bs).mem = Memory.writeBytes s.mem a bs := rfl
@[simp] theorem State.storeBytes_engine (a : Nat) (bs : List Byte) : (s.storeBytes a bs).engine = s.engine := rfl
@[simp] theorem State.storeBytes_rsp (a : Nat) (bs : List Byte) : (s.storeBytes a bs).rsp = s.rsp := rfl
@[simp] theorem State.storeBytes_turns (a : Nat) (bs : List Byte) : (s.storeBytes a bs).turns = s.turns := rfl
@[simp] theorem State.storeBytes_epoch (a : Nat) (bs : List Byte) : (s.storeBytes a bs).epoch = s.epoch := rfl
@[simp] theorem State.storeBytes_draws (a : Nat) (bs : List Byte) : (s.storeBytes a bs).draws = s.draws := rfl
@[simp] theorem State.storeBytes_params (a : Nat) (bs : List Byte) : (s.storeBytes a bs).params = s.params := rfl

/-! ### mapMatrix -/

@[simp] theorem State.mapMatrix_cmd (f : QrMatrix → QrMatrix) : (s.mapMatrix f).cmd = s.cmd := rfl
@[simp] theorem State.mapMatrix_status (f : QrMatrix → QrMatrix) : (s.mapMatrix f).status = s.status := rfl
@[simp] theorem State.mapMatrix_cfg (f : QrMatrix → QrMatrix) : (s.mapMatrix f).cfg = s.cfg := rfl
@[simp] theorem State.mapMatrix_arg0 (f : QrMatrix → QrMatrix) : (s.mapMatrix f).arg0 = s.arg0 := rfl
@[simp] theorem State.mapMatrix_arg1 (f : QrMatrix → QrMatrix) : (s.mapMatrix f).arg1 = s.arg1 := rfl
@[simp] theorem State.mapMatrix_arg2 (f : QrMatrix → QrMatrix) : (s.mapMatrix f).arg2 = s.arg2 := rfl
@[simp] theorem State.mapMatrix_result (f : QrMatrix → QrMatrix) : (s.mapMatrix f).result = s.result := rfl
@[simp] theorem State.mapMatrix_dataLen (f : QrMatrix → QrMatrix) : (s.mapMatrix f).dataLen = s.dataLen := rfl
@[simp] theorem State.mapMatrix_streamLen (f : QrMatrix → QrMatrix) : (s.mapMatrix f).streamLen = s.streamLen := rfl
@[simp] theorem State.mapMatrix_matrix (f : QrMatrix → QrMatrix) : (s.mapMatrix f).matrix = s.matrix.map f := rfl
@[simp] theorem State.mapMatrix_walkCount (f : QrMatrix → QrMatrix) : (s.mapMatrix f).walkCount = s.walkCount := rfl
@[simp] theorem State.mapMatrix_walkMods (f : QrMatrix → QrMatrix) : (s.mapMatrix f).walkMods = s.walkMods := rfl
@[simp] theorem State.mapMatrix_walkPos (f : QrMatrix → QrMatrix) : (s.mapMatrix f).walkPos = s.walkPos := rfl
@[simp] theorem State.mapMatrix_mem (f : QrMatrix → QrMatrix) : (s.mapMatrix f).mem = s.mem := rfl
@[simp] theorem State.mapMatrix_engine (f : QrMatrix → QrMatrix) : (s.mapMatrix f).engine = s.engine := rfl
@[simp] theorem State.mapMatrix_rsp (f : QrMatrix → QrMatrix) : (s.mapMatrix f).rsp = s.rsp := rfl
@[simp] theorem State.mapMatrix_turns (f : QrMatrix → QrMatrix) : (s.mapMatrix f).turns = s.turns := rfl
@[simp] theorem State.mapMatrix_epoch (f : QrMatrix → QrMatrix) : (s.mapMatrix f).epoch = s.epoch := rfl
@[simp] theorem State.mapMatrix_draws (f : QrMatrix → QrMatrix) : (s.mapMatrix f).draws = s.draws := rfl
@[simp] theorem State.mapMatrix_params (f : QrMatrix → QrMatrix) : (s.mapMatrix f).params = s.params := rfl

end Sys2Proof.Machine
end

