-- ==== Sys2Proof/Laws/Ops.lean ====
section
/-! SUPPORT. What the shared operations do: running a command's body, its checks, and the byte memories through the
state. -/

namespace Sys2Proof.Machine

/-! ## Checks in sequence -/

@[simp] theorem check_ok_bind {α β : Type} (a : α) (f : α → Except CmdError β) :
    ((Except.ok a : Except CmdError α) >>= f) = f a := rfl

@[simp] theorem check_error_bind {α β : Type} (c : CmdError) (f : α → Except CmdError β) :
    ((Except.error c : Except CmdError α) >>= f) = .error c := rfl

@[simp] theorem check_pure {α : Type} (a : α) : (pure a : Except CmdError α) = .ok a := rfl

/-- A sequence succeeds when its first part succeeds and the rest succeeds on what it gives. -/
theorem bind_eq_ok {α β : Type} {x : Except CmdError α} {f : α → Except CmdError β} {b : β} :
    (x >>= f) = .ok b ↔ ∃ a, x = .ok a ∧ f a = .ok b := by
  cases x <;> simp

/-- A sequence fails where its first part fails, or later. -/
theorem bind_eq_error {α β : Type} {x : Except CmdError α} {f : α → Except CmdError β} {c : CmdError} :
    (x >>= f) = .error c ↔ x = .error c ∨ ∃ a, x = .ok a ∧ f a = .error c := by
  cases x <;> simp

/-! ## Operands -/

theorem operandCheck_ok {p : Bool} {u : Unit} : operandCheck p = .ok u ↔ p = true := by
  cases p <;> simp [operandCheck]

theorem operandCheck_error {p : Bool} {c : CmdError} : operandCheck p = .error c ↔ p = false ∧ c = .invalidOperand := by
  cases p <;> simp [operandCheck, eq_comm]

theorem versionOperand_ok {s : State} {v : Version} : s.versionOperand = .ok v ↔ s.cfg.legalVersion = some v := by
  unfold State.versionOperand; cases s.cfg.legalVersion <;> simp

theorem versionOperand_error {s : State} {c : CmdError} :
    s.versionOperand = .error c ↔ s.cfg.legalVersion = none ∧ c = .invalidVersion := by
  unfold State.versionOperand; cases s.cfg.legalVersion <;> simp [eq_comm]

theorem maskOperand_ok {s : State} {m : Fin 8} : s.maskOperand = .ok m ↔ s.cfg.legalMask = some m := by
  unfold State.maskOperand; cases s.cfg.legalMask <;> simp

theorem maskOperand_error {s : State} {c : CmdError} :
    s.maskOperand = .error c ↔ s.cfg.legalMask = none ∧ c = .invalidMask := by
  unfold State.maskOperand; cases s.cfg.legalMask <;> simp [eq_comm]

theorem matrixOperand_ok {s : State} {q : QrMatrix} : s.matrixOperand = .ok q ↔ s.matrix = some q := by
  unfold State.matrixOperand; cases s.matrix <;> simp

theorem matrixOperand_error {s : State} {c : CmdError} :
    s.matrixOperand = .error c ↔ s.matrix = none ∧ c = .noMatrix := by
  unfold State.matrixOperand; cases s.matrix <;> simp [eq_comm]

theorem payloadOperand_ok {s : State} {v : Version} {b : BlockSpec} :
    s.payloadOperand v = .ok b ↔
      s.dataLen.toNat = (blockSpec v s.cfg.level).dataTotal ∧ b = blockSpec v s.cfg.level := by
  unfold State.payloadOperand; split <;> simp_all [eq_comm]

theorem payloadOperand_error {s : State} {v : Version} {c : CmdError} :
    s.payloadOperand v = .error c ↔
      s.dataLen.toNat ≠ (blockSpec v s.cfg.level).dataTotal ∧ c = .payloadLengthMismatch := by
  unfold State.payloadOperand; split <;> simp_all [eq_comm]

/-- A version number names a version exactly when it is in `[1, 40]`. -/
theorem versionOf_eq_some {n : Nat} {v : Version} : versionOf n = some v ↔ v.num = n ∧ n ≠ 0 := by
  unfold versionOf
  split
  · next h =>
    simp only [Option.some.injEq, Version.num]
    constructor
    · rintro rfl; simp; omega
    · rintro ⟨h1, -⟩
      obtain ⟨⟨r, hr⟩⟩ := v
      simp only at h1
      congr 2; omega
  · next h =>
    constructor
    · intro h'; cases h'
    · rintro ⟨h1, h2⟩
      have := v.row.isLt
      simp only [Version.num] at h1
      omega

/-! ## Running a command -/

@[simp] theorem runCommand_ok (s t : State) : runCommand s (.ok t) = .next t.complete := rfl

@[simp] theorem runCommand_error (s : State) (c : CmdError) : runCommand s (.error c) = .next (s.raiseCmdError c) := rfl

/-- Everything running a command can do: its effects and completion, or an error that changes STATUS only. -/
theorem runCommand_cases {s : State} {body : Except CmdError State} {o : Host.Outcome State Fault Refusal}
    (h : runCommand s body = o) :
    (∃ t, body = .ok t ∧ o = .next t.complete) ∨ (∃ c, body = .error c ∧ o = .next (s.raiseCmdError c)) := by
  subst h; cases body <;> simp

/-! ## The byte memories -/

theorem memByte_storeBytes_outside {s : State} {a b : Nat} {bs : List Byte} (h : b < a ∨ a + bs.length ≤ b) :
    (s.storeBytes a bs).memByte b = s.memByte b := by
  simp only [State.memByte, State.storeBytes_mem, State.storeBytes_epoch, Memory.lookup_writeBytes_outside h]

theorem memByte_storeBytes_inside {s : State} {a i : Nat} {bs : List Byte} (hi : i < bs.length)
    (ha : isMemAddr (a + i) = true) : (s.storeBytes a bs).memByte (a + i) = bs[i] := by
  simp only [State.memByte, State.storeBytes_mem, Memory.lookup_writeBytes_inside hi ha]

@[simp] theorem loadBytes_length (s : State) (a n : Nat) : (s.loadBytes a n).length = n := by simp [State.loadBytes]

/-- Loading bytes reads the memory only. -/
theorem loadBytes_congr {s t : State} {a n : Nat} (h : ∀ i, i < n → t.memByte (a + i) = s.memByte (a + i)) :
    t.loadBytes a n = s.loadBytes a n := by
  simp only [State.loadBytes]
  apply List.map_congr_left
  intro i hi; exact h i (List.mem_range.mp hi)

end Sys2Proof.Machine
end

