-- ==== Sys2Proof/Laws/Exec.lean ====
section
/-! SUPPORT. Every command is a body (checks, then effects) run by `runCommand`, and the bodies' effects are of a few
kinds. -/

namespace Sys2Proof.Machine

/-- The checks and effects of each command. -/
def commandBody (i : Instr) (s : State) : Except CmdError State :=
  match i with
  | .nop => .ok s
  | .matNew => matNewBody s
  | .matPut x y v f => matPutBody x y v f s
  | .matGet x y => matGetBody x y s
  | .gfAdd a b => .ok (s.gfResult (gfAddByte a b))
  | .gfMul a b => .ok (s.gfResult (gfMulByte a b))
  | .gfExp n => gfExpBody n s
  | .gfLog v => gfLogBody v s
  | .rsBlock k => rsBlockBody k s
  | .ecPipeline => ecPipelineBody s
  | .paintFinders => painterBody s paintFinders (fun _ => 147)
  | .paintSeparators => painterBody s paintSeparators (fun _ => 8)
  | .paintAlignment => painterBody s paintAlignment (fun q => (alignCentersProduct q.version).length)
  | .paintTiming => painterBody s paintTiming (fun q => (timingRange q.size).length)
  | .paintDark => painterBody s paintDark (fun _ => 1)
  | .reserveFormat => painterBody s reserveFormat (fun _ => 30)
  | .reserveVersion => painterBody s reserveVersion versionPasses
  | .paintFunctional => painterBody s paintFunctional versionPasses
  | .walk => walkBody s
  | .paintFormat => paintFormatBody s
  | .paintVersion => painterBody s paintVersion versionPasses
  | .generate => generateBody s

theorem exec_eq_runCommand (i : Instr) (s : State) : exec i s = runCommand s (commandBody i s) := by
  cases i <;> rfl

/-- The state a painter command leaves where it succeeds. -/
theorem painterBody_ok {s t : State} {paint : QrMatrix → QrMatrix} {passes : QrMatrix → Nat} :
    painterBody s paint passes = .ok t ↔ ∃ q, s.matrix = some q ∧ t = s.paintEffect q paint (passes q) := by
  unfold painterBody
  rw [bind_eq_ok]
  simp only [matrixOperand_ok, check_pure, Except.ok.injEq]
  exact ⟨fun ⟨q, h1, h2⟩ => ⟨q, h1, h2.symm⟩, fun ⟨q, h1, h2⟩ => ⟨q, h1, h2.symm⟩⟩

/-- A painter command fails only for want of a matrix. -/
theorem painterBody_error {s : State} {paint : QrMatrix → QrMatrix} {passes : QrMatrix → Nat} {c : CmdError} :
    painterBody s paint passes = .error c ↔ s.matrix = none ∧ c = .noMatrix := by
  unfold painterBody
  rw [bind_eq_error]
  simp [matrixOperand_error]

theorem matNewBody_ok {s t : State} : matNewBody s = .ok t ↔ ∃ v, s.cfg.legalVersion = some v ∧ t = s.matNewEffect v := by
  unfold matNewBody
  rw [bind_eq_ok]
  simp only [versionOperand_ok, check_pure, Except.ok.injEq]
  exact ⟨fun ⟨v, h1, h2⟩ => ⟨v, h1, h2.symm⟩, fun ⟨v, h1, h2⟩ => ⟨v, h1, h2.symm⟩⟩

theorem rsBlockBody_ok {k : Nat} {s t : State} :
    rsBlockBody k s = .ok t ↔
      (k ≠ 0 ∧ k ≤ 68) ∧ s.arg0.toNat + s.arg1.toNat ≤ memSize ∧ s.arg2.toNat + k ≤ memSize ∧
      t = (s.storeBytes (ecbufBase + s.arg2.toNat)
            (rsRem (s.loadBytes (dataInBase + s.arg0.toNat) s.arg1.toNat) k)).withEngine
            { s.engine with rsVector := rsWorking (s.loadBytes (dataInBase + s.arg0.toNat) s.arg1.toNat) k } := by
  simp only [rsBlockBody, bind_eq_ok, operandCheck_ok, Bool.and_eq_true, decide_eq_true_eq, check_pure,
    Except.ok.injEq]
  constructor
  · rintro ⟨_, h1, _, h2, _, h3, h4⟩; exact ⟨h1, h2, h3, h4.symm⟩
  · rintro ⟨h1, h2, h3, h4⟩; exact ⟨(), h1, (), h2, (), h3, h4.symm⟩

theorem ecPipelineBody_ok {s t : State} :
    ecPipelineBody s = .ok t ↔ ∃ v, s.cfg.legalVersion = some v ∧
      s.dataLen.toNat = (blockSpec v s.cfg.level).dataTotal ∧ t = s.ecPipelineEffect (blockSpec v s.cfg.level) := by
  simp only [ecPipelineBody, bind_eq_ok, versionOperand_ok, payloadOperand_ok, check_pure, Except.ok.injEq]
  constructor
  · rintro ⟨v, h1, b, ⟨h2, rfl⟩, h3⟩; exact ⟨v, h1, h2, h3.symm⟩
  · rintro ⟨v, h1, h2, h3⟩; exact ⟨v, h1, _, ⟨h2, rfl⟩, h3.symm⟩

theorem walkBody_ok {s t : State} :
    walkBody s = .ok t ↔ ∃ m q, s.cfg.legalMask = some m ∧ s.matrix = some q ∧ s.streamLen.toNat ≤ memSize ∧
      t = s.walkEffect m q := by
  simp only [walkBody, bind_eq_ok, maskOperand_ok, matrixOperand_ok, operandCheck_ok, decide_eq_true_eq, check_pure,
    Except.ok.injEq]
  constructor
  · rintro ⟨m, h1, q, h2, _, h3, h4⟩; exact ⟨m, q, h1, h2, h3, h4.symm⟩
  · rintro ⟨m, q, h1, h2, h3, h4⟩; exact ⟨m, h1, q, h2, (), h3, h4.symm⟩

theorem paintFormatBody_ok {s t : State} :
    paintFormatBody s = .ok t ↔ ∃ m q, s.cfg.legalMask = some m ∧ s.matrix = some q ∧
      t = s.paintEffect q (paintFormat s.cfg.level m) 15 := by
  simp only [paintFormatBody, bind_eq_ok, maskOperand_ok, matrixOperand_ok, check_pure, Except.ok.injEq]
  constructor
  · rintro ⟨m, h1, q, h2, h3⟩; exact ⟨m, q, h1, h2, h3.symm⟩
  · rintro ⟨m, q, h1, h2, h3⟩; exact ⟨m, h1, q, h2, h3.symm⟩

theorem generateBody_ok {s t : State} :
    generateBody s = .ok t ↔ ∃ v m, s.cfg.legalVersion = some v ∧ s.cfg.legalMask = some m ∧
      s.dataLen.toNat = (blockSpec v s.cfg.level).dataTotal ∧
      t = s.generateEffect v (blockSpec v s.cfg.level) m := by
  simp only [generateBody, bind_eq_ok, versionOperand_ok, maskOperand_ok, payloadOperand_ok, check_pure,
    Except.ok.injEq]
  constructor
  · rintro ⟨v, h1, m, h2, b, ⟨h3, rfl⟩, h4⟩; exact ⟨v, m, h1, h2, h3, h4.symm⟩
  · rintro ⟨v, m, h1, h2, h3, h4⟩; exact ⟨v, h1, m, h2, _, ⟨h3, rfl⟩, h4.symm⟩

/-! ## The registers EC_PIPELINE's stores leave alone -/

/-- Storing EC blocks changes the byte memories only. -/
theorem storeEcBlocks_eq_withMem (s : State) (ec t : Nat) (blocks : List (List Byte)) :
    s.storeEcBlocks ec t blocks = s.withMem (s.storeEcBlocks ec t blocks).mem := by
  induction blocks generalizing s t with
  | nil => rfl
  | cons e rest ih =>
    rw [State.storeEcBlocks, ih]
    rfl

theorem storeEcBlocks_wf {s : State} {ec t : Nat} {blocks : List (List Byte)} (h : Memory.wf s.mem = true) :
    Memory.wf (s.storeEcBlocks ec t blocks).mem = true := by
  induction blocks generalizing s t with
  | nil => exact h
  | cons e rest ih => exact ih (by simpa using Memory.wf_writeBytes h)

end Sys2Proof.Machine
end

