-- ==== Sys2Proof/Laws/Step.lean ====
section
/-! SUPPORT. Everything a step, and a host transaction, can do. -/

namespace Sys2Proof.Machine

/-- Everything a step can do. -/
theorem step_cases {s : State} {o : Host.Outcome State Fault Refusal} (h : step s = o) :
    (∃ t, nextAction s = .idle t ∧ o = .next t) ∨
    (∃ r t, nextAction s = .host r t ∧ o = .next (t.transact r)) ∨
    (∃ t, nextAction s = .reset t ∧ o = .next t.hardReset) ∨
    (∃ t i, nextAction s = .engine t ∧ decode t.cmd = .ok i ∧ o = exec i t) ∨
    (∃ t e, nextAction s = .engine t ∧ decode t.cmd = .error e ∧ o = .next (t.raiseCmdError .illegalCommand)) := by
  subst h
  unfold step
  cases hn : nextAction s with
  | idle t => exact .inl ⟨t, rfl, rfl⟩
  | host r t => exact .inr (.inl ⟨r, t, rfl, rfl⟩)
  | reset t => exact .inr (.inr (.inl ⟨t, rfl, rfl⟩))
  | engine t =>
    cases hd : decode t.cmd with
    | ok i => exact .inr (.inr (.inr (.inl ⟨t, i, rfl, hd, by simp [State.fetch, hd]⟩)))
    | error e => exact .inr (.inr (.inr (.inr ⟨t, e, rfl, hd, by simp [State.fetch, hd, raiseIllegal]⟩)))

/-- Choosing the action takes at most the head off the schedule and changes nothing else; the engine acts only while
BUSY. -/
theorem nextAction_cases (s : State) :
    ∃ ts, (nextAction s = .idle (s.withTurns ts) ∧ s.status.busy = false) ∨
      (nextAction s = .engine (s.withTurns ts) ∧ s.status.busy = true) ∨
      (∃ r, nextAction s = .host r (s.withTurns ts) ∧ s.turns = .host r :: ts) ∨
      (nextAction s = .reset (s.withTurns ts) ∧ s.turns = .reset :: ts) := by
  have hengine (t : State) (ht : t.status.busy = s.status.busy) :
      (engineAction t = .idle t ∧ s.status.busy = false) ∨ (engineAction t = .engine t ∧ s.status.busy = true) := by
    unfold engineAction
    rw [ht]
    cases s.status.busy <;> simp
  unfold nextAction
  split
  · next h =>
    have hs : s.withTurns [] = s := by unfold State.withTurns; rw [← h]
    refine ⟨[], ?_⟩
    rw [hs]
    rcases hengine s rfl with h | h
    · exact .inl h
    · exact .inr (.inl h)
  · next r ts h => exact ⟨ts, .inr (.inr (.inl ⟨r, rfl, h⟩))⟩
  · next ts h =>
    refine ⟨ts, ?_⟩
    rcases hengine (s.withTurns ts) rfl with h | h
    · exact .inl h
    · exact .inr (.inl h)
  · next ts h => exact ⟨ts, .inr (.inr (.inr ⟨rfl, h⟩))⟩

/-- Everything a host write to a CSR with BUSY = 0 can do. -/
theorem writeCsr_cases (s : State) (off : Nat) (w : Word) :
    s.writeCsr off w = s ∨ s.writeCsr off w = s.startCommand w ∨ s.writeCsr off w = s.withStatus (s.status.w1c w) ∨
    s.writeCsr off w = s.withCfg (cfgOfWord w) ∨ (∃ v, s.writeCsr off w = s.withArg0 v) ∨
    (∃ v, s.writeCsr off w = s.withArg1 v) ∨ (∃ v, s.writeCsr off w = s.withArg2 v) ∨
    (∃ v, s.writeCsr off w = s.withDataLen v) ∨ (∃ v, s.writeCsr off w = s.withStreamLen v) := by
  unfold State.writeCsr
  split <;> simp

/-- Everything a host write can do: a register, STATUS, or bytes of the memories. -/
theorem hostWrite_cases (s : State) (a n : Nat) (w : Word) :
    s.hostWrite a n w = s ∨ (s.status.busy = false ∧ s.hostWrite a n w = s.writeCsr a w) ∨
    (s.status.busy = false ∧ s.hostWrite a n w = s.storeBytes a (laneBytes a n w)) ∨
    (s.status.busy = true ∧ (s.hostWrite a n w = s.withStatus (s.status.w1c w) ∨
      s.hostWrite a n w = s.withStatus s.status.overrun)) := by
  unfold State.hostWrite
  cases hb : s.status.busy
  · simp only [Bool.false_eq_true, if_false]
    unfold State.idleWrite
    split <;> simp
  · simp only [if_true]
    unfold State.busyWrite
    split <;> simp

/-- Everything a transaction can do: a response, after the write if it is a write that is no bus error. -/
theorem transact_cases (s : State) (r : Request) :
    (∃ p, s.transact r = s.respond p) ∨
    (∃ n p, r.write = true ∧ accessBytes r = some n ∧
      s.transact r = (s.hostWrite r.addr.toNat n r.wdata).respond p) := by
  unfold State.transact
  split
  · exact .inl ⟨_, rfl⟩
  · next n hn =>
    split
    · next hw => exact .inr ⟨n, _, hw, hn, rfl⟩
    · exact .inl ⟨_, rfl⟩

end Sys2Proof.Machine
end

