-- ==== Sys2Proof/Laws/Bus.lean ====
section
/-! SUPPORT. The bus: which requests are legal, and what each lane of a read holds. -/

namespace Sys2Proof.Machine

/-- The CSR range is the region of the CSRs. -/
theorem regionOf_eq_csr {a : Nat} : regionOf a = .csr ↔ a < 0x100 := by
  unfold regionOf
  split
  · simp [*]
  · next h => constructor
              · intro h'; split at h'
                · cases h'
                · repeat' (first | cases h' | split at h')
              · intro h'; exact absurd h' h

theorem accessLegal_iff {a n : Nat} : accessLegal a n = true ↔ a % n = 0 ∧ (a < 0x100 → n = 4) := by
  simp only [accessLegal, Bool.and_eq_true, Bool.or_eq_true, decide_eq_true_eq, ne_eq, regionOf_eq_csr]
  omega

theorem sizeBytes_eq_some {size : BitVec 2} {n : Nat} :
    sizeBytes size = some n ↔ (size = 0 ∧ n = 1) ∨ (size = 1 ∧ n = 2) ∨ (size = 2 ∧ n = 4) := by
  have hs : size = 0 ∨ size = 1 ∨ size = 2 ∨ size = 3 := by revert size; decide
  rcases hs with rfl | rfl | rfl | rfl <;> simp [sizeBytes, eq_comm]

/-- A request has a size exactly when it is legal (R77, R78). -/
theorem accessBytes_eq_some {r : Request} {n : Nat} : accessBytes r = some n ↔ legalRequest r n := by
  unfold accessBytes legalRequest
  cases h : sizeBytes r.size with
  | none =>
    simp only [← sizeBytes_eq_some, h]
    simp
  | some k =>
    simp only [← sizeBytes_eq_some, h, ← accessLegal_iff, Option.some.injEq]
    constructor
    · intro h'; split at h'
      · next hl => cases h'; exact ⟨rfl, hl⟩
      · cases h'
    · rintro ⟨rfl, hl⟩; rw [if_pos hl]

/-- A bus error answers with an error and changes nothing. -/
theorem transact_of_illegal {s : State} {r : Request} (h : ¬∃ n, legalRequest r n) :
    s.transact r = responded s (Config.freeWord s.draws) true := by
  have hn : accessBytes r = none := by
    cases hb : accessBytes r with
    | none => rfl
    | some n => exact absurd ⟨n, accessBytes_eq_some.mp hb⟩ h
  simp only [State.transact, hn]
  rfl

/-- A legal read answers with its data and changes nothing. -/
theorem transact_of_read {s : State} {r : Request} {n : Nat} (h : legalRequest r n) (hw : r.write = false) :
    s.transact r = responded s (s.hostRead r.addr.toNat n) false := by
  simp only [State.transact, accessBytes_eq_some.mpr h, hw]
  rfl

/-- A legal write answers without an error after its effect. -/
theorem transact_of_write {s : State} {r : Request} {n : Nat} (h : legalRequest r n) (hw : r.write = true) :
    s.transact r = (s.hostWrite r.addr.toNat n r.wdata).respond { rdata := Config.freeWord s.draws, err := false } := by
  simp only [State.transact, accessBytes_eq_some.mpr h, hw, if_true]

/-- A lane of the data of a read, below lane 4. -/
theorem byteOf_readLanes {s : State} {a n l : Nat} (hl : l < 4) : byteOf (s.readLanes a n) l = s.readLane a n l := by
  have h : l = 0 ∨ l = 1 ∨ l = 2 ∨ l = 3 := by omega
  rcases h with rfl | rfl | rfl | rfl <;> simp [State.readLanes]

/-- An aligned access stays within one word: the lane of its byte `i` holds that byte. -/
theorem byteOf_readLanes_covered {s : State} {r : Request} {n i : Nat} (h : legalRequest r n) (hi : i < n) :
    byteOf (s.readLanes r.addr.toNat n) ((r.addr.toNat + i) % 4) = s.byteAt (r.addr.toNat + i) := by
  obtain ⟨hsize, halign, -⟩ := h
  have hn : n = 1 ∨ n = 2 ∨ n = 4 := by rcases hsize with h | h | h <;> simp [h.2]
  rw [byteOf_readLanes (Nat.mod_lt _ (by omega)), State.readLane]
  have hlane : r.addr.toNat % 4 ≤ (r.addr.toNat + i) % 4 ∧ (r.addr.toNat + i) % 4 < r.addr.toNat % 4 + n ∧
      r.addr.toNat / 4 * 4 + (r.addr.toNat + i) % 4 = r.addr.toNat + i := by
    rcases hn with rfl | rfl | rfl <;> omega
  rw [if_pos ⟨hlane.1, hlane.2.1⟩, hlane.2.2]

end Sys2Proof.Machine
end

