-- ==== Sys2Proof/Laws/Painter.lean ====
section
/-! SUPPORT. What every painter leaves alone: the version, and the plane bits that belong to no module. -/

namespace Sys2Proof.Machine

theorem SameTail.refl (q : QrMatrix) : SameTail q q := ⟨rfl, fun _ _ => ⟨rfl, rfl⟩⟩

theorem SameTail.size {q q' : QrMatrix} (h : SameTail q q') : q'.size = q.size := by
  simp only [QrMatrix.size, h.1]

theorem SameTail.trans {q q' q'' : QrMatrix} (h : SameTail q q') (h' : SameTail q' q'') : SameTail q q'' := by
  refine ⟨h'.1.trans h.1, fun p hp => ?_⟩
  have h1 := h.2 p hp
  have h2 := h'.2 p (by rw [h.size]; exact hp)
  exact ⟨h2.1.trans h1.1, h2.2.trans h1.2⟩

/-- A matrix that is clear past its modules stays so. -/
theorem SameTail.tailClear {q q' : QrMatrix} (h : SameTail q q') (hc : q.tailClear) : q'.tailClear := by
  intro p hp
  rw [h.size] at hp
  have h1 := h.2 p hp
  have h2 := hc p hp
  exact ⟨h1.1.trans h2.1, h1.2.trans h2.2⟩

theorem sameTail_put (q : QrMatrix) (x y : Int) (v f : Bool) : SameTail q (q.put x y v f) :=
  ⟨put_version q x y v f, fun _ hp => planeBit_put_outside hp⟩

theorem sameTail_paint (q : QrMatrix) (ss : List Stroke) : SameTail q (q.paint ss) :=
  ⟨paint_version q ss, fun _ hp => planeBit_paint_outside hp⟩

/-- A fold of steps that each keep the tail keeps it. -/
theorem sameTail_foldl {α : Type} {f : QrMatrix → α → QrMatrix} (hf : ∀ q a, SameTail q (f q a)) (q : QrMatrix)
    (l : List α) : SameTail q (l.foldl f q) := by
  induction l generalizing q with
  | nil => exact SameTail.refl q
  | cons a l ih => exact (hf q a).trans (ih (f q a))

theorem sameTail_paintAlignmentAt (q : QrMatrix) (c : Nat × Nat) : SameTail q (paintAlignmentAt q c) := by
  unfold paintAlignmentAt; split
  · exact SameTail.refl q
  · exact sameTail_paint q _

theorem sameTail_paintTimingModule (q : QrMatrix) (x y : Int) (i : Nat) : SameTail q (paintTimingModule q x y i) := by
  unfold paintTimingModule; split
  · exact SameTail.refl q
  · exact sameTail_put q x y _ _

theorem sameTail_paintTimingAt (q : QrMatrix) (i : Nat) : SameTail q (paintTimingAt q i) :=
  (sameTail_paintTimingModule q i 6 i).trans (sameTail_paintTimingModule _ 6 i i)

theorem sameTail_paintFinders (q : QrMatrix) : SameTail q (paintFinders q) := sameTail_paint q _

theorem sameTail_paintSeparators (q : QrMatrix) : SameTail q (paintSeparators q) := sameTail_paint q _

theorem sameTail_paintAlignment (q : QrMatrix) : SameTail q (paintAlignment q) :=
  sameTail_foldl sameTail_paintAlignmentAt q _

theorem sameTail_paintTiming (q : QrMatrix) : SameTail q (paintTiming q) :=
  sameTail_foldl sameTail_paintTimingAt q _

theorem sameTail_paintDark (q : QrMatrix) : SameTail q (paintDark q) := sameTail_put q _ _ _ _

theorem sameTail_reserveFormat (q : QrMatrix) : SameTail q (reserveFormat q) := sameTail_paint q _

theorem sameTail_reserveVersion (q : QrMatrix) : SameTail q (reserveVersion q) := by
  unfold reserveVersion; split
  · exact sameTail_paint q _
  · exact SameTail.refl q

theorem sameTail_paintFunctional (q : QrMatrix) : SameTail q (paintFunctional q) :=
  (sameTail_paintFinders q).trans <| (sameTail_paintSeparators _).trans <| (sameTail_paintAlignment _).trans <|
    (sameTail_paintTiming _).trans <| (sameTail_paintDark _).trans <| (sameTail_reserveFormat _).trans <|
    sameTail_reserveVersion _

theorem sameTail_paintFormat (e : EcLevel) (m : Fin 8) (q : QrMatrix) : SameTail q (paintFormat e m q) :=
  sameTail_paint q _

theorem sameTail_paintVersion (q : QrMatrix) : SameTail q (paintVersion q) := by
  unfold paintVersion; split
  · exact sameTail_paint q _
  · exact SameTail.refl q

/-- A fresh matrix is clear everywhere (R144). -/
theorem planeBit_new (v : Version) (p : Nat) :
    planeBit (QrMatrix.new v).value p = false ∧ planeBit (QrMatrix.new v).functional p = false := by
  simp [QrMatrix.new, planeBit]

end Sys2Proof.Machine
end

