-- ==== Sys2Proof/Laws/PerInstr.lean ====
section
/-! SUPPORT. A statement about every command as syntax, one lemma per constructor: the word `encode` gives it matches a row of
spec/opcode_table.json, so its opcode is listed and its reserved bits are 0. -/

namespace Sys2Proof.Laws.TableRow

open Sys2Proof Sys2Proof.Machine

/-- The command's word matches a row of the opcode table. -/
def Statement (i : Instr) : Prop := ∃ p ∈ opcodeMasks, encode i &&& p.1 = p.2

/-- The bytes of a masked word are the masked bytes. -/
theorem wordOf_and (b3 b2 b1 b0 m3 m2 m1 m0 : Byte) :
    wordOf b3 b2 b1 b0 &&& wordOf m3 m2 m1 m0 = wordOf (b3 &&& m3) (b2 &&& m2) (b1 &&& m1) (b0 &&& m0) := by
  apply BitVec.eq_of_getLsbD_eq
  intro i _
  simp only [BitVec.getLsbD_and, getLsbD_wordOf]
  split
  · rfl
  · split
    · rfl
    · split <;> rfl

theorem nop : Statement (.nop) := by
  refine ⟨(0xFFFFFFFF, 0x00000000), by decide, ?_⟩
  decide

theorem matNew : Statement (.matNew) := by
  refine ⟨(0xFFFFFFFF, 0x00000001), by decide, ?_⟩
  decide

theorem matPut (x y : Nat) (v f : Bool) : Statement (.matPut x y v f) := by
  refine ⟨(0xFC0000FF, 0x00000002), by decide, ?_⟩
  show wordOf _ _ _ _ &&& wordOf 0xFC 0x00 0x00 0xFF = 0x00000002
  rw [wordOf_and]
  cases v <;> cases f <;> simp [modulePutByte] <;> decide

theorem matGet (x y : Nat) : Statement (.matGet x y) := by
  refine ⟨(0xFF0000FF, 0x00000003), by decide, ?_⟩
  show wordOf _ _ _ _ &&& wordOf 0xFF 0x00 0x00 0xFF = 0x00000003
  rw [wordOf_and]
  simp
  decide

theorem gfAdd (a b : Byte) : Statement (.gfAdd a b) := by
  refine ⟨(0xFF0000FF, 0x00000010), by decide, ?_⟩
  show wordOf _ _ _ _ &&& wordOf 0xFF 0x00 0x00 0xFF = 0x00000010
  rw [wordOf_and]
  simp
  decide

theorem gfMul (a b : Byte) : Statement (.gfMul a b) := by
  refine ⟨(0xFF0000FF, 0x00000011), by decide, ?_⟩
  show wordOf _ _ _ _ &&& wordOf 0xFF 0x00 0x00 0xFF = 0x00000011
  rw [wordOf_and]
  simp
  decide

theorem gfExp (n : Nat) : Statement (.gfExp n) := by
  refine ⟨(0xFFFF00FF, 0x00000012), by decide, ?_⟩
  show wordOf _ _ _ _ &&& wordOf 0xFF 0xFF 0x00 0xFF = 0x00000012
  rw [wordOf_and]
  simp
  decide

theorem gfLog (v : Byte) : Statement (.gfLog v) := by
  refine ⟨(0xFFFF00FF, 0x00000013), by decide, ?_⟩
  show wordOf _ _ _ _ &&& wordOf 0xFF 0xFF 0x00 0xFF = 0x00000013
  rw [wordOf_and]
  simp
  decide

theorem rsBlock (k : Nat) : Statement (.rsBlock k) := by
  refine ⟨(0xFFFF00FF, 0x00000020), by decide, ?_⟩
  show wordOf _ _ _ _ &&& wordOf 0xFF 0xFF 0x00 0xFF = 0x00000020
  rw [wordOf_and]
  simp
  decide

theorem ecPipeline : Statement (.ecPipeline) := by
  refine ⟨(0xFFFFFFFF, 0x00000021), by decide, ?_⟩
  decide

theorem paintFinders : Statement (.paintFinders) := by
  refine ⟨(0xFFFFFFFF, 0x00000030), by decide, ?_⟩
  decide

theorem paintSeparators : Statement (.paintSeparators) := by
  refine ⟨(0xFFFFFFFF, 0x00000031), by decide, ?_⟩
  decide

theorem paintAlignment : Statement (.paintAlignment) := by
  refine ⟨(0xFFFFFFFF, 0x00000032), by decide, ?_⟩
  decide

theorem paintTiming : Statement (.paintTiming) := by
  refine ⟨(0xFFFFFFFF, 0x00000033), by decide, ?_⟩
  decide

theorem paintDark : Statement (.paintDark) := by
  refine ⟨(0xFFFFFFFF, 0x00000034), by decide, ?_⟩
  decide

theorem reserveFormat : Statement (.reserveFormat) := by
  refine ⟨(0xFFFFFFFF, 0x00000035), by decide, ?_⟩
  decide

theorem reserveVersion : Statement (.reserveVersion) := by
  refine ⟨(0xFFFFFFFF, 0x00000036), by decide, ?_⟩
  decide

theorem paintFunctional : Statement (.paintFunctional) := by
  refine ⟨(0xFFFFFFFF, 0x00000037), by decide, ?_⟩
  decide

theorem walk : Statement (.walk) := by
  refine ⟨(0xFFFFFFFF, 0x00000040), by decide, ?_⟩
  decide

theorem paintFormat : Statement (.paintFormat) := by
  refine ⟨(0xFFFFFFFF, 0x00000050), by decide, ?_⟩
  decide

theorem paintVersion : Statement (.paintVersion) := by
  refine ⟨(0xFFFFFFFF, 0x00000051), by decide, ?_⟩
  decide

theorem generate : Statement (.generate) := by
  refine ⟨(0xFFFFFFFF, 0x00000060), by decide, ?_⟩
  decide

end Sys2Proof.Laws.TableRow
end

