-- ==== Sys2Proof/Laws/Rs.lean ====
section
/-! SUPPORT. Lengths in the Reed–Solomon unit and the EC pipeline. -/

namespace Sys2Proof.Machine

/-- Row `k` of the generator ROM has `k` entries (R55). -/
theorem genRow_length {k : Nat} (h1 : 1 ≤ k) (h68 : k ≤ 68) : (genRow k).length = k := by
  have h : ∀ j : Fin 68, (genRow (j.val + 1)).length = j.val + 1 := by decide
  have := h ⟨k - 1, by omega⟩
  simpa [show k - 1 + 1 = k by omega] using this

theorem xorScaled_length {lead : Nat} {g : List Nat} {c : List Byte} (h : g.length ≤ c.length) :
    (xorScaled lead g c).length = c.length := by
  induction g generalizing c with
  | nil => rfl
  | cons gj gs ih =>
    cases c with
    | nil => simp at h
    | cons cj cs =>
      simp only [List.length_cons] at h
      simp [xorScaled, ih (c := cs) (by omega)]

theorem rsStep_length {g : List Nat} {lead : Byte} {rest : List Byte} (h : g.length ≤ rest.length) :
    (rsStep g lead rest).length = rest.length := by
  unfold rsStep; split
  · rfl
  · exact xorScaled_length h

theorem rsDivide_length {g : List Nat} {n : Nat} {c : List Byte} (h : n + g.length ≤ c.length) :
    (rsDivide g n c).length = c.length := by
  induction n generalizing c with
  | zero => cases c <;> rfl
  | succ n ih =>
    cases c with
    | nil => simp at h
    | cons c0 rest =>
      simp only [List.length_cons] at h
      have hr := rsStep_length (g := g) (lead := c0) (rest := rest) (by omega)
      simp [rsDivide, ih (c := rsStep g c0 rest) (by omega), hr]

/-- The working vector has the block's codewords and the remainder's (R127). -/
theorem rsWorking_length {b : List Byte} {k : Nat} (h1 : 1 ≤ k) (h68 : k ≤ 68) :
    (rsWorking b k).length = b.length + k := by
  unfold rsWorking
  rw [rsDivide_length (by simp [genRow_length h1 h68])]
  simp

end Sys2Proof.Machine
end

