-- ==== Sys2Proof/Laws/Walk.lean ====
section
/-! SUPPORT. The walk: its position moves as if the matrix were not there, a visit touches one module at most, and a
functional module never. -/

namespace Sys2Proof.Machine

variable (i : WalkInput) (r : WalkRun) (x y : Int)

/-- Everything a visit can do: nothing at a functional module; the next stream bit; or a remainder module (R176). -/
theorem visit_cases :
    (r.matrix.isFunc x y = true ∧ r.visit i x y = r) ∨
    (r.matrix.isFunc x y = false ∧ r.fsm.bitptr < 8 * i.stream.length ∧
      r.visit i x y = { fsm := { r.fsm with bitptr := r.fsm.bitptr + 1 },
                        matrix := r.matrix.put x y
                          (xor (streamBit i.stream r.fsm.bitptr) (maskP i.mask x.toNat y.toNat)) false,
                        mods := r.mods + 1 }) ∨
    (r.matrix.isFunc x y = false ∧ 8 * i.stream.length ≤ r.fsm.bitptr ∧ i.remainder = .leave ∧ r.visit i x y = r) ∨
    (r.matrix.isFunc x y = false ∧ 8 * i.stream.length ≤ r.fsm.bitptr ∧ i.remainder = .maskedZero ∧
      r.visit i x y = { fsm := r.fsm,
                        matrix := r.matrix.put x y (maskP i.mask x.toNat y.toNat) false,
                        mods := r.mods + 1 }) := by
  unfold WalkRun.visit
  cases hf : r.matrix.isFunc x y
  · by_cases hb : r.fsm.bitptr < 8 * i.stream.length
    · simp [hb, WalkRun.place]
    · have hb' : 8 * i.stream.length ≤ r.fsm.bitptr := by omega
      cases hr : i.remainder <;> simp [hb', WalkRun.place]
  · simp

/-- A visit moves the FSM nowhere: only the stream bit pointer can change. -/
theorem visit_fsm :
    (r.visit i x y).fsm = { r.fsm with bitptr := (r.visit i x y).fsm.bitptr } := by
  rcases visit_cases i r x y with h | h | h | h <;> simp [h]

@[simp] theorem visit_xr : (r.visit i x y).fsm.xr = r.fsm.xr := by rw [visit_fsm]

@[simp] theorem visit_y : (r.visit i x y).fsm.y = r.fsm.y := by rw [visit_fsm]

@[simp] theorem visit_up : (r.visit i x y).fsm.up = r.fsm.up := by rw [visit_fsm]

theorem sameTail_visit : SameTail r.matrix (r.visit i x y).matrix := by
  rcases visit_cases i r x y with h | h | h | h
  · rw [h.2]; exact SameTail.refl _
  · rw [h.2.2]; exact sameTail_put _ _ _ _ _
  · rw [h.2.2.2]; exact SameTail.refl _
  · rw [h.2.2.2]; exact sameTail_put _ _ _ _ _

/-- A visit changes no module but its own. -/
theorem visit_get_other {x' y' : Int} (h : ¬(x' = x ∧ y' = y)) :
    (r.visit i x y).matrix.get x' y' = r.matrix.get x' y' := by
  have hne : ¬(x' = x ∧ y' = y ∧ r.matrix.inb x y = true) := fun hh => h ⟨hh.1, hh.2.1⟩
  rcases visit_cases i r x y with hc | hc | hc | hc
  · rw [hc.2]
  · rw [hc.2.2, get_put, if_neg hne]
  · rw [hc.2.2.2]
  · rw [hc.2.2.2, get_put, if_neg hne]

/-- No visit makes a module functional or takes that away. -/
theorem visit_isFunc (x' y' : Int) : (r.visit i x y).matrix.isFunc x' y' = r.matrix.isFunc x' y' := by
  by_cases h : x' = x ∧ y' = y
  · obtain ⟨rfl, rfl⟩ := h
    rcases visit_cases i r x' y' with hc | hc | hc | hc
    · rw [hc.2]
    · rw [hc.2.2, isFunc_put, hc.1]; simp
    · rw [hc.2.2.2]
    · rw [hc.2.2.2, isFunc_put, hc.1]; simp
  · simp only [QrMatrix.isFunc, visit_get_other i r x y h]

@[simp] theorem visitAll_nil : r.visitAll i [] = r := rfl

@[simp] theorem visitAll_cons (c : Int × Int) (cs : List (Int × Int)) :
    r.visitAll i (c :: cs) = (r.visit i c.1 c.2).visitAll i cs := rfl

/-- The two visits of a row (R171). -/
theorem row_matrix :
    (r.row i).matrix = ((r.visit i r.fsm.xr r.fsm.y).left.visit i (r.fsm.xr - 1) r.fsm.y).matrix := by
  simp [WalkRun.row]

theorem sameTail_row : SameTail r.matrix (r.row i).matrix := by
  rw [row_matrix]
  exact (sameTail_visit i r _ _).trans (sameTail_visit i (r.visit i r.fsm.xr r.fsm.y).left _ _)

@[simp] theorem row_size : (r.row i).matrix.size = r.matrix.size := (sameTail_row i r).size

/-- The row's move (R174): it depends on the position only. -/
theorem row_position :
    (r.row i).fsm.xr = (r.fsm.advance r.matrix.size).xr ∧ (r.row i).fsm.y = (r.fsm.advance r.matrix.size).y ∧
      (r.row i).fsm.up = (r.fsm.advance r.matrix.size).up := by
  have hadvance (S : Int) (f g : WalkFsm) (hx : f.xr = g.xr) (hy : f.y = g.y) (hu : f.up = g.up) :
      (f.advance S).xr = (g.advance S).xr ∧ (f.advance S).y = (g.advance S).y ∧
        (f.advance S).up = (g.advance S).up := by
    simp only [WalkFsm.advance, hx, hy, hu]
    split <;> split <;> simp_all
  have hs := ((sameTail_visit i r r.fsm.xr r.fsm.y).trans
    (sameTail_visit i (r.visit i r.fsm.xr r.fsm.y).left (r.fsm.xr - 1) r.fsm.y)).size
  have h := hadvance r.matrix.size ((r.visit i r.fsm.xr r.fsm.y).left.visit i (r.fsm.xr - 1) r.fsm.y).fsm r.fsm
    (by simp [WalkRun.left]) (by simp [WalkRun.left]) (by simp [WalkRun.left])
  simp only [WalkRun.row, visit_xr, visit_y]
  rw [hs]
  exact h

theorem sameTail_loop (fuel : Nat) : SameTail r.matrix (WalkRun.loop i fuel r).matrix := by
  induction fuel generalizing r with
  | zero => exact SameTail.refl _
  | succ fuel ih =>
    rw [WalkRun.loop]
    split
    · exact (sameTail_row i r).trans (ih (r.row i))
    · exact SameTail.refl _

/-- A walk keeps the version and the plane bits past the matrix. -/
theorem sameTail_runWalk (q : QrMatrix) : SameTail q (runWalk i q).matrix :=
  sameTail_loop i { fsm := WalkFsm.start q.size, matrix := q, mods := 0 } _

end Sys2Proof.Machine
end

