-- ==== Sys2Proof/Tests/Slice0.lean ====
section
/-! SUPPORT. Tests of the model on values that spec/ gives, and for every statement with hypotheses a state that meets
them. "TV" is spec/95_test_vectors.md. -/

namespace Sys2Proof.Tests

open Sys2Proof Sys2Proof.Machine

/-! ## WellFormed: each check refuses an ill-formed term -/

theorem test_wellFormed_refuses_x : (Instr.matPut 256 0 true true).wellFormed = false := by decide
theorem test_wellFormed_refuses_y : (Instr.matPut 0 256 true true).wellFormed = false := by decide
theorem test_wellFormed_refuses_get_x : (Instr.matGet 256 0).wellFormed = false := by decide
theorem test_wellFormed_refuses_get_y : (Instr.matGet 0 256).wellFormed = false := by decide
theorem test_wellFormed_refuses_exponent : (Instr.gfExp 256).wellFormed = false := by decide
theorem test_wellFormed_refuses_k : (Instr.rsBlock 256).wellFormed = false := by decide
theorem test_wellFormed_accepts_edges :
    (Instr.matPut 255 255 true true).wellFormed = true ∧ (Instr.matGet 255 0).wellFormed = true ∧
    (Instr.gfExp 255).wellFormed = true ∧ (Instr.rsBlock 255).wellFormed = true := by decide

/-! ## Decoding: words written out from the formats of R96 to R101, field by field -/

-- format N: RSV 24 bits, OPC
theorem test_decode_nop : decode (0b000000000000000000000000#24 ++ 0b00000000#8) = .ok .nop := by decide
theorem test_decode_matNew : decode (0b000000000000000000000000#24 ++ 0b00000001#8) = .ok .matNew := by decide
theorem test_decode_ecPipeline : decode (0b000000000000000000000000#24 ++ 0b00100001#8) = .ok .ecPipeline := by decide
theorem test_decode_paintFinders : decode (0b000000000000000000000000#24 ++ 0b00110000#8) = .ok .paintFinders := by decide
theorem test_decode_paintSeparators :
    decode (0b000000000000000000000000#24 ++ 0b00110001#8) = .ok .paintSeparators := by decide
theorem test_decode_paintAlignment :
    decode (0b000000000000000000000000#24 ++ 0b00110010#8) = .ok .paintAlignment := by decide
theorem test_decode_paintTiming : decode (0b000000000000000000000000#24 ++ 0b00110011#8) = .ok .paintTiming := by decide
theorem test_decode_paintDark : decode (0b000000000000000000000000#24 ++ 0b00110100#8) = .ok .paintDark := by decide
theorem test_decode_reserveFormat :
    decode (0b000000000000000000000000#24 ++ 0b00110101#8) = .ok .reserveFormat := by decide
theorem test_decode_reserveVersion :
    decode (0b000000000000000000000000#24 ++ 0b00110110#8) = .ok .reserveVersion := by decide
theorem test_decode_paintFunctional :
    decode (0b000000000000000000000000#24 ++ 0b00110111#8) = .ok .paintFunctional := by decide
theorem test_decode_walk : decode (0b000000000000000000000000#24 ++ 0b01000000#8) = .ok .walk := by decide
theorem test_decode_paintFormat : decode (0b000000000000000000000000#24 ++ 0b01010000#8) = .ok .paintFormat := by decide
theorem test_decode_paintVersion :
    decode (0b000000000000000000000000#24 ++ 0b01010001#8) = .ok .paintVersion := by decide
theorem test_decode_generate : decode (0b000000000000000000000000#24 ++ 0b01100000#8) = .ok .generate := by decide
-- format MP: RSV 6 bits, F, V, Y, X, OPC
theorem test_decode_matPut :
    decode (0b000000#6 ++ 0b1#1 ++ 0b0#1 ++ 0b00000010#8 ++ 0b10000001#8 ++ 0b00000010#8)
      = .ok (.matPut 129 2 false true) := by decide
-- format MG: RSV 8 bits, Y, X, OPC
theorem test_decode_matGet :
    decode (0b00000000#8 ++ 0b00000010#8 ++ 0b10000001#8 ++ 0b00000011#8) = .ok (.matGet 129 2) := by decide
-- format G2: RSV 8 bits, B, A, OPC
theorem test_decode_gfAdd :
    decode (0b00000000#8 ++ 0b11001010#8 ++ 0b01010011#8 ++ 0b00010000#8) = .ok (.gfAdd 0x53 0xCA) := by decide
theorem test_decode_gfMul :
    decode (0b00000000#8 ++ 0b11001010#8 ++ 0b01010011#8 ++ 0b00010001#8) = .ok (.gfMul 0x53 0xCA) := by decide
-- formats G1 and K: RSV 16 bits, operand, OPC
theorem test_decode_gfExp : decode (0b0000000000000000#16 ++ 0b00011001#8 ++ 0b00010010#8) = .ok (.gfExp 25) := by decide
theorem test_decode_gfLog : decode (0b0000000000000000#16 ++ 0b00011101#8 ++ 0b00010011#8) = .ok (.gfLog 29) := by decide
theorem test_decode_rsBlock :
    decode (0b0000000000000000#16 ++ 0b00001101#8 ++ 0b00100000#8) = .ok (.rsBlock 13) := by decide
theorem test_decode_rejects_reserved_bits :
    decode 0x01CA5311 = .error .reservedBits ∧ decode 0x00010012 = .error .reservedBits ∧
    decode 0x04000002 = .error .reservedBits ∧ decode 0x80000060 = .error .reservedBits := by decide
theorem test_decode_rejects_unlisted :
    decode 0x000000FF = .error .unlistedOpcode ∧ decode 0x00000022 = .error .unlistedOpcode ∧
    decode 0x00000004 = .error .unlistedOpcode := by decide
/-- The examples of R107. -/
theorem test_encode_examples :
    encode (.gfMul 0x53 0xCA) = 0x00CA5311 ∧ encode (.matPut 14 14 true false) = 0x010E0E02 ∧
    encode (.rsBlock 13) = 0x00000D20 ∧ encode .generate = 0x00000060 := by decide

/-! ## One step of each command, on a small state -/

/-- The state after the step that runs the word `w`, if the step answers one. -/
def after (s : State) (w : Nat) : Option State :=
  match step (s.withFetchWord 32 w) with
  | .next t => some t
  | .fault _ => none
  | .refused _ => none

/-- The CSR at `off` after the word `w`. -/
def csrAfter (s : State) (w off : Nat) : Option Word := (after s w).map (fun t => t.csr off)

/-- Some bytes of the byte memories after the word `w`. -/
def bytesAfter (s : State) (w a n : Nat) : Option (List Byte) := (after s w).map (fun t => t.loadBytes a n)

/-- What MAT_GET would put in RESULT for some modules after the word `w`. -/
def modulesAfter (s : State) (w : Nat) (cs : List (Int × Int)) : Option (List Nat) :=
  (after s w).bind (fun t => t.matrix.map (fun q => cs.map (fun c => (moduleResult (q.get c.1 c.2)).word.toNat)))

/-- A state with a fresh matrix of version `v + 1`. -/
def fresh (v : Fin 40) : State := { State.reset with matrix := some (QrMatrix.new ⟨v⟩) }

/-- A state with these bytes of `DATA_IN`, `CFG = cfg` and `DATA_LEN` their number. -/
def loaded (cfg : Word) (bs : List Byte) : State :=
  { State.reset with
    cfg := cfgOfWord cfg
    dataLen := BitVec.ofNat 13 bs.length
    mem := bs.zipIdx.map (fun p => (0x1000 + p.2, p.1)) }

/-- The data codewords of TV program P2. -/
def hello : List Byte := [32, 91, 11, 120, 209, 114, 220, 77, 67, 64, 236, 17, 236, 17, 236, 17]

/-- TV 2.8. -/
theorem test_nop : csrAfter State.reset 0x00000000 0x08 = some 0x2 := by decide
/-- TV 2.8: an illegal word ends with ILLEGAL_COMMAND. -/
theorem test_illegal : csrAfter State.reset 0x00000100 0x08 = some 0x46 := by decide
/-- TV 2.1. -/
theorem test_gfAdd : csrAfter State.reset 0x00CA5310 0x1C = some 0x199 := by decide
theorem test_gfMul : csrAfter State.reset 0x00CA5311 0x1C = some 0x18F := by decide
theorem test_gfMul_wraps : csrAfter State.reset 0x00FFFF11 0x1C = some 0x1E2 := by decide
theorem test_gfExp : csrAfter State.reset 0x0000FE12 0x1C = some 0x18E := by decide
theorem test_gfExp_255 :
    csrAfter State.reset 0x0000FF12 0x08 = some 0x56 ∧ csrAfter State.reset 0x0000FF12 0x1C = some 0 := by decide
theorem test_gfLog : csrAfter State.reset 0x00008E13 0x1C = some 0x1FE := by decide
theorem test_gfLog_zero :
    csrAfter State.reset 0x00000013 0x08 = some 0x56 ∧ csrAfter State.reset 0x00000013 0x1C = some 0 := by decide
/-- TV S1. -/
theorem test_rsBlock :
    bytesAfter { loaded 0 [1, 2, 3] with arg1 := 3 } 0x00000320 0x2000 3 = some [92, 236, 176] := by decide
/-- TV 2.2: the last destination in range, and the first out of it. -/
theorem test_rsBlock_range :
    csrAfter { State.reset with arg2 := 4089 } 0x00000720 0x08 = some 0x2 ∧
    csrAfter { State.reset with arg2 := 4090 } 0x00000720 0x08 = some 0x56 := by decide
/-- TV 2.3. -/
theorem test_ecPipeline :
    bytesAfter (loaded 0x00000101 hello) 0x00000021 0x3010 10 = some [196, 35, 39, 119, 235, 215, 231, 226, 93, 23] ∧
    csrAfter (loaded 0x00000101 hello) 0x00000021 0x24 = some 26 := by decide +kernel
theorem test_ecPipeline_length : csrAfter (loaded 0x00000101 (hello.take 15)) 0x00000021 0x08 = some 0x36 := by decide
/-- TV S3, S4. -/
theorem test_interleave :
    interleave [[1, 2, 3], [4, 5, 6], [7, 8, 9]] = [1, 4, 7, 2, 5, 8, 3, 6, 9] ∧
    interleave [[1, 2], [3, 4, 5], [6]] = [1, 3, 6, 2, 4, 5] := by decide
/-- TV 2.4, S5. -/
theorem test_matNew :
    csrAfter (loaded 1 []) 0x00000001 0x28 = some 0x00010115 ∧
    csrAfter (loaded 40 []) 0x00000001 0x28 = some 0x000128B1 := by decide +kernel
theorem test_matNew_version_0 : csrAfter State.reset 0x00000001 0x08 = some 0x16 := by decide
theorem test_matPut :
    (after (fresh 0) 0x010E0E02).map (fun t => (t.readLanes 0x4024 4).getLsbD 20) = some true := by decide +kernel
theorem test_matPut_out_of_bounds :
    (after (fresh 0) 0x03001502).map (fun t => decide (t.matrix = (fresh 0).matrix)) = some true := by decide +kernel
theorem test_matGet :
    csrAfter (fresh 0) 0x000E0E03 0x1C = some 0x100 ∧ csrAfter (fresh 0) 0x00001503 0x1C = some 0x000 := by
  decide +kernel
theorem test_matGet_no_matrix : csrAfter State.reset 0x00000003 0x08 = some 0x66 := by decide
/-- TV S6, 2.5. -/
theorem test_paintFinders :
    modulesAfter (fresh 0) 0x00000030 [(0, 0), (6, 0), (0, 6), (6, 6), (1, 1), (3, 3), (14, 14), (7, 7)]
      = some [0x103, 0x103, 0x103, 0x103, 0x102, 0x103, 0x100, 0x100] := by decide +kernel
theorem test_paintSeparators :
    modulesAfter (fresh 0) 0x00000031 [(7, 7), (13, 7), (7, 13), (7, 0), (20, 7), (8, 7)]
      = some [0x102, 0x102, 0x102, 0x102, 0x102, 0x100] := by decide +kernel
/-- R153's example: the pattern of V = 2 at (18, 18). Without finders the three other centres are painted too (R240). -/
theorem test_paintAlignment :
    modulesAfter (fresh 1) 0x00000032 [(18, 18), (17, 18), (16, 18), (15, 18), (6, 6)]
      = some [0x103, 0x102, 0x103, 0x100, 0x103] := by decide +kernel
/-- R154's example. -/
theorem test_paintTiming :
    modulesAfter (fresh 0) 0x00000033 [(8, 6), (9, 6), (12, 6), (13, 6), (6, 9), (6, 8)]
      = some [0x103, 0x102, 0x103, 0x100, 0x102, 0x103] := by decide +kernel
/-- R155's example. -/
theorem test_paintDark : modulesAfter (fresh 0) 0x00000034 [(8, 13), (13, 8)] = some [0x103, 0x100] := by decide +kernel
/-- R157's example. -/
theorem test_reserveFormat :
    modulesAfter (fresh 0) 0x00000035 [(0, 8), (8, 0), (8, 20), (20, 8), (6, 8), (8, 13)]
      = some [0x102, 0x102, 0x102, 0x102, 0x100, 0x100] := by decide +kernel
/-- R158's example. -/
theorem test_reserveVersion :
    modulesAfter (fresh 6) 0x00000036 [(0, 34), (5, 36), (34, 0), (36, 5), (6, 34)]
      = some [0x102, 0x102, 0x102, 0x102, 0x100] := by decide +kernel
/-- TV 2.5, V = 7: the centres on the timing lines are painted, and the functional count is the table's. -/
theorem test_paintFunctional :
    modulesAfter (fresh 6) 0x00000037 [(22, 6), (6, 22), (22, 22), (38, 22), (20, 6), (44, 44)]
      = some [0x103, 0x103, 0x103, 0x103, 0x103, 0x100] := by decide +kernel
/-- R181: the first modules of HELLO WORLD's stream under mask 3. -/
theorem test_walk :
    modulesAfter { fresh 0 with cfg := cfgOfWord 0x00030101, streamLen := 2, mem := [(0x3000, 32), (0x3001, 91)] }
      0x00000040 [(20, 20), (19, 20), (20, 19), (19, 19)] = some [0x100, 0x101, 0x100, 0x100] := by decide +kernel
/-- TV 2.6: the mask is checked first, then the matrix, then the stream length. -/
theorem test_walk_errors :
    csrAfter { State.reset with cfg := cfgOfWord 0x00080000 } 0x00000040 0x08 = some 0x26 ∧
    csrAfter State.reset 0x00000040 0x08 = some 0x66 ∧
    csrAfter { fresh 0 with streamLen := 4097 } 0x00000040 0x08 = some 0x56 := by decide +kernel
/-- TV 2.7: row 8, columns 13 to 20, of 1-M mask 3. -/
theorem test_paintFormat :
    modulesAfter { fresh 0 with cfg := cfgOfWord 0x00030101 } 0x00000050
      [(13, 8), (14, 8), (15, 8), (16, 8), (17, 8), (18, 8), (19, 8), (20, 8)]
      = some [0x102, 0x103, 0x102, 0x102, 0x103, 0x102, 0x103, 0x103] := by decide +kernel
/-- TV 2.7. -/
theorem test_paintVersion :
    modulesAfter (fresh 6) 0x00000051 [(0, 36), (36, 0), (0, 34), (34, 0), (34, 1), (5, 36)]
      = some [0x103, 0x103, 0x102, 0x102, 0x102, 0x102] := by decide +kernel
/-- TV program P2: the value plane's first words and the WALK registers after GENERATE. -/
theorem test_generate :
    (after (loaded 0x00030101 hello) 0x00000060).map (fun t => [t.readLanes 0x4000 4, t.readLanes 0x4034 4,
        t.readLanes 0x5030 4, t.csr 0x08, t.csr 0x28, t.csr 0x40, t.csr 0x48])
      = some [0xA83FD37F, 0x00C9B7F1, 0x00FF8007, 0x2, 0x00010115, 0xD0, 0x031401FF] := by decide +kernel
theorem test_generate_errors :
    csrAfter (loaded 0x00090000 [1]) 0x00000060 0x08 = some 0x16 ∧
    csrAfter (loaded 0x00090101 [1]) 0x00000060 0x08 = some 0x26 ∧
    csrAfter (loaded 0x00030101 [1]) 0x00000060 0x08 = some 0x36 := by decide

/-! ## The bus -/

/-- TV 2.9: the read-back of CFG drops the reserved bits. -/
theorem test_cfg_readback :
    ((State.reset.transact (memWrite 0x0C 4 0xFFFFFFFF)).transact (memRead 0x0C 4)).rsp
      = some { rdata := 0x000F033F, err := false } := by decide
/-- TV 2.9: accesses that are bus errors. -/
theorem test_bus_errors :
    (State.reset.transact (memRead 0x0000 1)).rsp.map Response.err = some true ∧
    (State.reset.transact (memWrite 0x0004 2 0x0060)).rsp.map Response.err = some true ∧
    (State.reset.transact (memRead 0x1002 4)).rsp.map Response.err = some true ∧
    (State.reset.transact (memRead 0x1001 2)).rsp.map Response.err = some true ∧
    (State.reset.transact (memRead 0x1000 3)).rsp.map Response.err = some true := by decide
/-- R236: PARAM3 after reset. -/
theorem test_reset_param3 :
    (State.reset.transact (memRead 0x38 4)).rsp = some { rdata := 0x800077C4, err := false } := by decide
/-- TV program P2: PARAM0 to PARAM2 of 1-M. -/
theorem test_params :
    param0 (cfgOfWord 0x00030101) = 0x8000010A ∧ param1 (cfgOfWord 0x00030101) = 0x00150010 ∧
    param2 (cfgOfWord 0x00030101) = 0x001A0010 := by decide
/-- R108: EXEC is the write to CMD, the engine's turn after the polls that see BUSY, and the poll that does not. -/
theorem test_script_exec :
    (ScriptLine.exec .nop 1).turns = [.host (memWrite 0x04 4 0), .host (memRead 0x08 4), .engine,
      .host (memRead 0x08 4)] := by decide
/-- R244 and TV program P7: a command may complete before or after the write that follows its ISSUE. -/
theorem test_script_completes :
    scriptTurns [.issue .nop, .wr 0x0C 0, .wait 0] = [.host (memWrite 0x04 4 0), .host (memWrite 0x0C 4 0), .engine,
      .host (memRead 0x08 4)] ∧
    scriptTurns [.issue .nop, .completes, .wr 0x0C 0, .wait 0] = [.host (memWrite 0x04 4 0), .engine,
      .host (memWrite 0x0C 4 0), .engine, .host (memRead 0x08 4)] := by decide

/-! ## Witnesses: states and operands that meet the hypotheses of the statements -/

/-- A state with BUSY = 1 and the word `w` in CMD. -/
def running (w : Word) : State := State.reset.startCommand w

/-- A request of 4 bytes. -/
def req4 (write : Bool) (a : Nat) : Request := { write := write, addr := BitVec.ofNat 16 a, size := 2, wdata := 0xFFFFFFFF }

/-- A request of 1 byte. -/
def req1 (write : Bool) (a : Nat) : Request := { write := write, addr := BitVec.ofNat 16 a, size := 0, wdata := 0xFFFFFFFF }

/-- The state of TV program P2 before GENERATE, with a matrix already held. -/
def ready : State := { loaded 0x00030101 hello with matrix := some (QrMatrix.new ⟨0⟩), streamLen := 26 }

theorem legal4 (w : Bool) : legalRequest (req4 w 0x1000) 4 := ⟨.inr (.inr ⟨rfl, rfl⟩), by cases w <;> rfl, fun _ => rfl⟩

theorem witness_DecodeOfEncode :
    (Instr.matPut 255 255 true true).wellFormed = true ∧ (Instr.gfExp 255).wellFormed = true ∧
    (Instr.rsBlock 0).wellFormed = true := by decide

theorem witness_EncodeOfDecode :
    (∃ i, decode 0x03FFFF02 = .ok i) ∧ ∃ e, decode 0x04000002 = .error e :=
  ⟨⟨.matPut 255 255 true true, by decide⟩, .reservedBits, by decide⟩

/-- The edges of R105's list, and a reserved bit of each format. -/
theorem witness_IllegalWordsEndAtOnce :
    (∀ n ∈ [0x04, 0x0F, 0x14, 0x1F, 0x22, 0x2F, 0x38, 0x3F, 0x41, 0x4F, 0x52, 0x5F, 0x61, 0xFF], illegalOpcode n) ∧
    (∀ n ∈ [0x00, 0x03, 0x10, 0x13, 0x20, 0x21, 0x30, 0x37, 0x40, 0x50, 0x51, 0x60], ¬ illegalOpcode n) ∧
    (∀ w ∈ [0x00000100, 0x04000002, 0x01000003, 0x01000010, 0x00010012, 0x00010020], illegalWord (BitVec.ofNat 32 w)) ∧
    (running 0x00000100).status.busy = true ∧ engineNext (running 0x00000100) ∧
    illegalWord (running 0x00000100).cmd := by
  refine ⟨?_, ?_, ?_, rfl, .inl rfl, ?_⟩ <;> simp only [illegalOpcode, illegalWord, reservedFrom] <;> decide +kernel

theorem witness_StepRunsTheDecodedCommand :
    ((running 0).status.busy = true ∧ engineNext (running 0) ∧ decode (running 0).cmd = .ok .nop) ∧
    (State.reset.status.busy = false ∧ engineNext State.reset) ∧
    engineNext { running 0 with turns := [.engine, .reset] } ∧
    (∃ r ts, { State.reset with turns := [.host (req4 true 4)] }.turns = .host r :: ts) ∧
    (∃ ts, { State.reset with turns := [.reset] }.turns = .reset :: ts) ∧
    (Instr.rsBlock 255).wellFormed = true :=
  ⟨⟨rfl, .inl rfl, by decide +kernel⟩, ⟨rfl, .inl rfl⟩, .inr ⟨_, rfl⟩, ⟨_, _, rfl⟩, ⟨_, rfl⟩, by decide⟩

theorem witness_CommandStart :
    legalRequest (req4 true 4) 4 ∧ (req4 true 4).write = true ∧ (req4 true 4).addr.toNat = 0x04 ∧
    State.reset.status.busy = false ∧ (running 0).status.busy = true :=
  ⟨⟨.inr (.inr ⟨rfl, rfl⟩), rfl, fun _ => rfl⟩, rfl, rfl, rfl, rfl⟩

theorem witness_EveryCommandCompletes :
    (running 0x60).status.busy = true ∧
    { running 0x60 with turns := [.host (req4 true 8), .engine] }.status.busy = true := ⟨rfl, rfl⟩

/-- Each error of R212 that a command can report, and a command of each kind with none. -/
theorem witness_ErrorsFollowTheChecks :
    expectedError .matNew State.reset = some .invalidVersion ∧
    expectedError .generate (loaded 0x00090101 [1]) = some .invalidMask ∧
    expectedError .ecPipeline (loaded 0x00090101 [1]) = some .payloadLengthMismatch ∧
    expectedError (.matGet 0 0) State.reset = some .noMatrix ∧
    expectedError .walk { ready with streamLen := 4097 } = some .invalidOperand ∧
    expectedError (.rsBlock 69) ready = some .invalidOperand ∧
    expectedError (.gfExp 255) ready = some .invalidOperand ∧ expectedError (.gfLog 0) ready = some .invalidOperand ∧
    (∀ i ∈ [Instr.nop, .matNew, .matPut 255 255 true true, .matGet 0 0, .gfExp 254, .gfLog 1, .rsBlock 68, .ecPipeline,
      .paintFinders, .walk, .paintFormat, .paintVersion, .generate], expectedError i ready = none) := by
  decide +kernel

theorem witness_EngineNeverWritesHostInputs : ∃ t, exec (.gfAdd 1 2) ready = .next t := ⟨_, rfl⟩

theorem witness_OutputsHaveTheirOwnWriters :
    (∃ t, exec .nop ready = .next t) ∧ writesResult .walk = false ∧ writesMatrix (.matGet 0 0) = false ∧
    ¬ mayWriteByte (.rsBlock 3) 0x1FFF ∧ ¬ mayWriteByte (.rsBlock 3) 0x3000 ∧ ¬ mayWriteByte .generate 0x4000 ∧
    ¬ mayWriteByte .walk 0x3000 := by
  refine ⟨⟨_, rfl⟩, rfl, rfl, ?_⟩
  simp [mayWriteByte]

theorem witness_MatrixIsOwnedByTheEngine :
    (∃ t, step { ready with turns := [.reset] } = .next t ∧ t.matrix ≠ { ready with turns := [.reset] }.matrix) ∧
    (∃ t, step ((loaded 1 []).withFetchWord 32 1) = .next t ∧ t.matrix ≠ ((loaded 1 []).withFetchWord 32 1).matrix) :=
  ⟨⟨_, rfl, by decide +kernel⟩, ⟨_, rfl, by decide +kernel⟩⟩

theorem witness_StatusHasThreeWriters : ∃ t, step (running 0) = .next t ∧ t.status ≠ (running 0).status :=
  ⟨_, rfl, by decide⟩

theorem witness_EveryStepKeepsTheInvariant : State.reset.Inv ∧ ∃ t, step State.reset = .next t := by
  refine ⟨⟨by decide, ⟨by decide, by decide⟩, ?_⟩, ⟨_, rfl⟩⟩
  intro q h; cases h

theorem witness_ResetValues :
    (∃ s, s = State.reset) ∧ ∃ s u ts, (u : State).turns = .reset :: ts ∧ step u = .next s :=
  ⟨⟨_, rfl⟩, _, { ready with turns := [.reset] }, [], rfl, rfl⟩

/-- A misaligned, a narrow and a reserved-size request, and the widest legal ones at the edges. -/
theorem witness_BusErrorsChangeNothing :
    (¬∃ n, legalRequest (req4 true 0x1002) n) ∧ (¬∃ n, legalRequest (req1 true 0xFC) n) ∧
    (¬∃ n, legalRequest { req4 true 0x1000 with size := 3 } n) ∧ (∃ n, legalRequest (req4 true 0xFC) n) ∧
    (∃ n, legalRequest (req1 true 0x100) n) ∧ ∃ n, legalRequest (req1 false 0xFFFF) n := by
  simp only [← accessBytes_eq_some]
  refine ⟨?_, ?_, ?_, ⟨4, by decide⟩, ⟨1, by decide⟩, ⟨1, by decide⟩⟩ <;>
    (rintro ⟨n, h⟩; revert h; simp [accessBytes, sizeBytes, accessLegal, regionOf, req4, req1])

theorem witness_ReadsChangeNothing : (req4 false 0x1002).write = false := rfl

/-- Every CSR offset is reached, the reserved ones too. -/
theorem witness_RegistersReadTheirFields :
    ∀ n ∈ [0x00, 0x04, 0x08, 0x0C, 0x10, 0x14, 0x18, 0x1C, 0x20, 0x24, 0x28, 0x2C, 0x30, 0x34, 0x38, 0x3C,
      0x40, 0x44, 0x48, 0x4C, 0xFC],
    accessBytes (req4 false n) = some 4 ∧ (req4 false n).addr.toNat < 0x100 ∧ (req4 false n).write = false ∧
    State.reset.status.busy = false := by decide +kernel

theorem witness_RegistersTakeTheirFields :
    ∀ n ∈ [0x00, 0x04, 0x08, 0x0C, 0x10, 0x14, 0x18, 0x1C, 0x20, 0x24, 0x28, 0x38, 0x4C, 0xFC],
    accessBytes (req4 true n) = some 4 ∧ (req4 true n).addr.toNat < 0x100 ∧ (req4 true n).write = true ∧
    State.reset.status.busy = false := by decide +kernel

theorem witness_MemoryReadsReturnTheBytes :
    ∀ n ∈ [0x1000, 0x1FFC, 0x2000, 0x3FFC],
    accessBytes (req4 false n) = some 4 ∧ accessBytes (req1 false (n + 3)) = some 1 ∧
    isMemAddr (req1 false (n + 3)).addr.toNat = true ∧ isMemAddr (req4 false n).addr.toNat = true ∧
    (req4 false n).write = false ∧ State.reset.status.busy = false := by decide +kernel

theorem witness_MemoryWritesStoreTheBytes :
    ∀ n ∈ [0x1000, 0x1FFC, 0x2000, 0x3FFC],
    accessBytes (req4 true n) = some 4 ∧ accessBytes (req1 true (n + 3)) = some 1 ∧
    isMemAddr (req1 true (n + 3)).addr.toNat = true ∧ isMemAddr (req4 true n).addr.toNat = true ∧
    (req4 true n).write = true ∧ State.reset.status.busy = false := by decide +kernel

theorem witness_MixedWidthExample : State.reset.status.busy = false := rfl

/-- The edges of the reserved ranges and of the windows. -/
theorem witness_WindowsAndReservedRanges :
    (∀ n ∈ [0x100, 0xFFC, 0x6000, 0xFFFC], accessBytes (req4 false n) = some 4 ∧
      ((0x100 ≤ n ∧ n < 0x1000) ∨ 0x6000 ≤ n)) ∧
    (∀ n ∈ [0x100, 0xFFC, 0x4000, 0x5FFC, 0xFFFC], accessBytes (req4 true n) = some 4 ∧
      ((0x100 ≤ n ∧ n < 0x1000) ∨ 0x4000 ≤ n)) ∧
    State.reset.status.busy = false := by decide +kernel

theorem witness_WritesWhileBusy_ovr :
    let s : State := { State.reset with status := { State.reset.status with ovr := true }, turns := [.host (req4 true 8)] }
    s.status.ovr = true ∧ ∃ t, step s = .next t ∧ t.status.ovr = false := ⟨rfl, _, rfl, by decide⟩

theorem witness_WritesWhileBusy :
    (running 0).status.busy = true ∧
    (accessBytes (req4 true 0x0C) = some 4 ∧ (req4 true 0x0C).addr.toNat ≠ 0x08) ∧
    (accessBytes (req1 true 0xFFFF) = some 1 ∧ (req1 true 0xFFFF).addr.toNat ≠ 0x08) ∧
    accessBytes (req4 true 0x08) = some 4 ∧ (req4 true 0x08).addr.toNat = 0x08 := by decide +kernel

theorem witness_ReadsWhileBusy :
    (running 0).status.busy = true ∧
    (accessBytes (req4 false 0x3C) = some 4 ∧ steadyRegister (req4 false 0x3C).addr.toNat) ∧
    (accessBytes (req1 false 0x1FFF) = some 1 ∧ 0x1000 ≤ (req1 false 0x1FFF).addr.toNat ∧
      (req1 false 0x1FFF).addr.toNat < 0x2000) ∧
    (accessBytes (req1 false 0x2000) = some 1 ∧ unsteadyAddress (req1 false 0x2000).addr.toNat) ∧
    (accessBytes (req1 false 0x5FFF) = some 1 ∧ unsteadyAddress (req1 false 0x5FFF).addr.toNat) ∧
    (accessBytes (req4 false 0x48) = some 4 ∧ unsteadyAddress (req4 false 0x48).addr.toNat) := by
  simp only [steadyRegister, unsteadyAddress]; decide +kernel

theorem witness_WindowsShowThePlanes :
    ready.status.busy = false ∧ ready.matrix = some (QrMatrix.new ⟨0⟩) ∧ 9 < 1024 ∧
    14 < (QrMatrix.new ⟨0⟩).size ∧ 14 + (QrMatrix.new ⟨0⟩).size * 14 = 32 * 9 + (14 + (QrMatrix.new ⟨0⟩).size * 14) % 32 :=
  ⟨rfl, rfl, by decide, by decide, by decide⟩

theorem witness_ExpAndLogTables : 254 < 255 ∧ (0xFF : Byte) ≠ 0 := by decide

theorem witness_TablesFollowTheirRules :
    (1 ≤ 68 ∧ 68 ≤ 68) ∧ (7 ≤ 40 ∧ 40 ≤ 40) ∧ 6 < 7 ∧ 4 < 5 ∧ 0 < (blockSpec ⟨39⟩ .h).n2 ∧
      (Version.mk 0).num = 1 ∧ 2 ≤ (Version.mk 1).num ∧ 5 + 1 < (alignCenters ⟨39⟩).length ∧
      2 ≤ (Version.mk 39).num := by decide

theorem witness_GfLaws : (0x53 : Byte) ≠ 0 := by decide

theorem witness_GfExpAndGfLogResults : (0 < 255 ∧ 254 < 255) ∧ (1 : Byte) ≠ 0 ∧ (255 : Byte) ≠ 0 := by decide

/-- The longest remainder at the end of `ECBUF`, and an empty source at the end of `DATA_IN`. -/
theorem witness_RsBlockResult :
    (1 ≤ 68 ∧ 68 ≤ 68) ∧
    (let s : State := { State.reset with arg0 := 4096, arg1 := 0, arg2 := 4028 }
     s.arg0.toNat + s.arg1.toNat ≤ 4096 ∧ s.arg2.toNat + 68 ≤ 4096) ∧
    (let s : State := { State.reset with arg0 := 0, arg1 := 4096, arg2 := 4095 }
     s.arg0.toNat + s.arg1.toNat ≤ 4096 ∧ s.arg2.toNat + 1 ≤ 4096) := by decide

theorem witness_RsremIsThePseudocode : 1 ≤ 13 ∧ 13 ≤ 68 := by decide

theorem witness_BlockAndRemainderAreDivisible : (1 ≤ 1 ∧ 1 ≤ 68) ∧ 0 < 1 ∧ (1 ≤ 68 ∧ 68 ≤ 68) ∧ 67 < 68 := by decide

theorem witness_RemainderIsLinear :
    (1 ≤ 3 ∧ 3 ≤ 68) ∧ ([1, 2, 3] : List Byte).length = ([4, 5, 6] : List Byte).length := by decide

/-- The first version with its one level, and the last. -/
theorem witness_EcPipelineResult :
    (ready.cfg.version.toNat = (Version.mk 0).num ∧
      (let b := blockSpec ⟨0⟩ (levelOf ready.cfg.ecl); ready.dataLen.toNat = b.s1 * b.n1 + b.s2 * b.n2)) ∧
    (let s : State := { State.reset with cfg := cfgOfWord 0x00000328, dataLen := 1276 }
     let b := blockSpec ⟨39⟩ (levelOf s.cfg.ecl)
     s.cfg.version.toNat = (Version.mk 39).num ∧ s.dataLen.toNat = b.s1 * b.n1 + b.s2 * b.n2) := by decide

theorem witness_InterleavePlacesEveryCodeword :
    2 < (([[1, 2], [3, 4, 5], [6]] : List (List Byte)).getD 1 []).length := by decide

theorem witness_MatNewResult :
    (loaded 1 []).cfg.version.toNat = (Version.mk 0).num ∧ (loaded 40 []).cfg.version.toNat = (Version.mk 39).num := by
  decide

theorem witness_MatPutResult : ready.matrix = some (QrMatrix.new ⟨0⟩) := rfl

theorem witness_MatGetResult :
    ready.matrix = some (QrMatrix.new ⟨0⟩) ∧ 20 < (QrMatrix.new ⟨0⟩).size ∧ 0 < (QrMatrix.new ⟨0⟩).size ∧
    ¬(21 < (QrMatrix.new ⟨0⟩).size ∧ 0 < (QrMatrix.new ⟨0⟩).size) :=
  ⟨rfl, by decide, by decide, by decide⟩

theorem witness_PaintFindersResult : ready.matrix = some (QrMatrix.new ⟨0⟩) := rfl
theorem witness_PaintSeparatorsResult : ready.matrix = some (QrMatrix.new ⟨0⟩) := rfl
theorem witness_PaintAlignmentResult : (fresh 6).matrix = some (QrMatrix.new ⟨6⟩) := rfl
theorem witness_PaintTimingResult : (fresh 39).matrix = some (QrMatrix.new ⟨39⟩) := rfl
theorem witness_PaintDarkResult : ready.matrix = some (QrMatrix.new ⟨0⟩) := rfl
theorem witness_ReserveFormatResult : ready.matrix = some (QrMatrix.new ⟨0⟩) := rfl
theorem witness_ReserveVersionResult :
    (fresh 5).matrix = some (QrMatrix.new ⟨5⟩) ∧ (fresh 6).matrix = some (QrMatrix.new ⟨6⟩) := ⟨rfl, rfl⟩
theorem witness_PaintFormatResult :
    ready.matrix = some (QrMatrix.new ⟨0⟩) ∧ ready.cfg.mask.toNat ≤ 7 ∧ (cfgOfWord 0x00070000).mask.toNat ≤ 7 :=
  ⟨rfl, by decide, by decide⟩
theorem witness_PaintVersionResult :
    (fresh 5).matrix = some (QrMatrix.new ⟨5⟩) ∧ (fresh 6).matrix = some (QrMatrix.new ⟨6⟩) := ⟨rfl, rfl⟩
theorem witness_PaintFunctionalIsTheSevenSteps :
    State.reset.matrix = none ∧ ready.matrix = some (QrMatrix.new ⟨0⟩) := ⟨rfl, rfl⟩
theorem witness_FunctionalCounts :
    (loaded 1 []).cfg.version.toNat = (Version.mk 0).num ∧ (loaded 40 []).cfg.version.toNat = (Version.mk 39).num := by
  decide

/-- A stream shorter than the matrix has room for, so that remainder modules are reached, and the longest stream. -/
theorem witness_WalkResult :
    (ready.matrix = some (QrMatrix.new ⟨0⟩) ∧ ready.cfg.mask.toNat = (3 : Fin 8).val ∧ ready.streamLen.toNat ≤ 4096) ∧
    { ready with streamLen := 4096 }.streamLen.toNat ≤ 4096 ∧ { ready with streamLen := 0 }.streamLen.toNat ≤ 4096 ∧
    (∃ (j : Nat) (x y : Int), (QrMatrix.new ⟨0⟩).dataModules[j]? = some (x, y)) ∧
    ((6, 0) : Int × Int) ∉ (QrMatrix.new ⟨0⟩).dataModules :=
  ⟨⟨rfl, by decide, by decide⟩, by decide, by decide, ⟨0, 20, 20, by decide +kernel⟩, by decide +kernel⟩

theorem witness_GenerateIsItsComponents :
    ready.cfg.version.toNat = (Version.mk 0).num ∧ ready.cfg.mask.toNat ≤ 7 ∧
    ready.dataLen.toNat = (blockSpec ⟨0⟩ (levelOf ready.cfg.ecl)).dataTotal := by decide

theorem witness_GenerateResult :
    (let s : State := { State.reset with cfg := cfgOfWord 0x00070328, dataLen := 1276 }
     s.cfg.version.toNat = (Version.mk 39).num ∧ s.cfg.mask.toNat ≤ 7 ∧
     s.dataLen.toNat = (blockSpec ⟨39⟩ (levelOf s.cfg.ecl)).dataTotal) ∧
    ready.cfg.version.toNat = (Version.mk 0).num ∧ ready.cfg.mask.toNat ≤ 7 ∧
    ready.dataLen.toNat = (blockSpec ⟨0⟩ (levelOf ready.cfg.ecl)).dataTotal := by decide

/-- The greatest version and mask; and for V = 2, where remainder modules exist, a functional module, a data module and the
last remainder module. -/
theorem witness_GenerateMatrixResult :
    (let s : State := { State.reset with cfg := cfgOfWord 0x00070328, dataLen := 1276 }
     s.cfg.version.toNat = (Version.mk 39).num ∧ s.cfg.mask.toNat = (7 : Fin 8).val ∧
     s.dataLen.toNat = (blockSpec ⟨39⟩ (levelOf s.cfg.ecl)).dataTotal) ∧
    (let s : State := { State.reset with cfg := cfgOfWord 0x00000002, dataLen := 34 }
     s.cfg.version.toNat = (Version.mk 1).num ∧ s.cfg.mask.toNat = (0 : Fin 8).val ∧
     s.dataLen.toNat = (blockSpec ⟨1⟩ (levelOf s.cfg.ecl)).dataTotal ∧ levelOf s.cfg.ecl = .l) ∧
    symbolModule ⟨1⟩ .l 0 8 17 = some true ∧ symbolModule ⟨1⟩ .l 0 24 24 = none ∧
    (symbolPlaces ⟨1⟩ .l 0)[0]? = some (24, 24) ∧ (symbolPlaces ⟨1⟩ .l 0)[358]? = some (0, 16) := by
  decide +kernel

/-- Two states that agree on the inputs of GENERATE and differ in what they held before. -/
theorem witness_GenerateDependsOnItsInputsOnly :
    let s := ready
    let s' : State := { ready with matrix := none, streamLen := 7, arg0 := 1 }
    s ≠ s' ∧ s.cfg = s'.cfg ∧ s.dataLen = s'.dataLen ∧ s.params = s'.params ∧
    (∀ a, a < s.dataLen.toNat → s.memByte (0x1000 + a) = s'.memByte (0x1000 + a)) ∧
    s.cfg.version.toNat = (Version.mk 0).num ∧ s.cfg.mask.toNat ≤ 7 ∧
    s.dataLen.toNat = (blockSpec ⟨0⟩ (levelOf s.cfg.ecl)).dataTotal ∧
    (∃ t, exec .generate s = .next t) ∧ ∃ t, exec .generate s' = .next t := by
  refine ⟨by decide +kernel, rfl, rfl, rfl, fun _ _ => rfl, by decide, by decide, by decide, ?_, ?_⟩ <;>
    (rw [exec_eq_runCommand]; cases commandBody .generate _ <;> exact ⟨_, rfl⟩)

end Sys2Proof.Tests
end

/-! PROOF. What one step and one command can do: the inversion lemmas from which the statements on STATUS, on the
outputs and on the invariant follow. -/

namespace Sys2Proof.Machine

/-! ## One step -/

/-- Where the engine acts, or finds itself idle, its turn was next. -/
theorem engineNext_of_engineAction {s t : State} (h : nextAction s = .engine t ∨ nextAction s = .idle t) :
    engineNext s := by
  unfold nextAction at h
  split at h
  · next hs => exact .inl hs
  · simp at h
  · next ts hs => exact .inr ⟨ts, hs⟩
  · simp at h

/-- Everything a step can do to `s`, once its turn is off the schedule: a host transaction, a reset, the command that `CMD`
decodes to, the error of a word that is no command, or nothing. -/
theorem step_next_cases {s t : State} (h : step s = .next t) :
    ∃ ts, (∃ r, s.turns = .host r :: ts ∧ t = (s.withTurns ts).transact r) ∨
      (s.turns = .reset :: ts ∧ t = (s.withTurns ts).hardReset) ∨
      (s.status.busy = true ∧ engineNext s ∧ ∃ i, decode s.cmd = .ok i ∧ exec i (s.withTurns ts) = .next t) ∨
      (s.status.busy = true ∧ engineNext s ∧ t = (s.withTurns ts).raiseCmdError .illegalCommand) ∨
      (s.status.busy = false ∧ engineNext s ∧ t = s.withTurns ts) := by
  obtain ⟨ts, hn⟩ := nextAction_cases s
  refine ⟨ts, ?_⟩
  unfold step at h
  rcases hn with ⟨ha, hb⟩ | ⟨ha, hb⟩ | ⟨r, ha, hs⟩ | ⟨ha, hs⟩ <;> rw [ha] at h
  · cases h
    exact .inr (.inr (.inr (.inr ⟨hb, engineNext_of_engineAction (.inr ha), rfl⟩)))
  · have hnext := engineNext_of_engineAction (.inl ha)
    simp only [State.fetch, State.withTurns_cmd] at h
    split at h
    · next i hi => exact .inr (.inr (.inl ⟨hb, hnext, i, hi, h⟩))
    · cases h
      exact .inr (.inr (.inr (.inl ⟨hb, hnext, rfl⟩)))
  · cases h; exact .inl ⟨r, hs, rfl⟩
  · cases h; exact .inr (.inl ⟨hs, rfl⟩)

/-- A command ends with its effects made and STATUS completed, or with an error that changes STATUS only (R211, R213). -/
theorem exec_next_cases {i : Instr} {s t : State} (h : exec i s = .next t) :
    (∃ u, commandBody i s = .ok u ∧ t = u.complete) ∨ (∃ c, t = s.raiseCmdError c) := by
  rw [exec_eq_runCommand] at h
  rcases runCommand_cases h with ⟨u, hu, ht⟩ | ⟨c, -, ht⟩
  · cases ht; exact .inl ⟨u, hu, rfl⟩
  · cases ht; exact .inr ⟨c, rfl⟩

/-! ## The effects of a command -/

/-- The matrix held, if any, is clear past its modules: the third part of the invariant (R44). -/
def State.MatrixClear (s : State) : Prop := ∀ q, s.matrix = some q → q.tailClear

/-- `n` is `m` after writes to addresses in `[lo, hi)`: what was canonical is, and every other address is as it was. -/
def Memory.WrittenWithin (lo hi : Nat) (m n : Memory) : Prop :=
  (Memory.wf m = true → Memory.wf n = true) ∧ ∀ a, ¬(lo ≤ a ∧ a < hi) → Memory.lookup n a = Memory.lookup m a

theorem Memory.WrittenWithin.trans {lo hi : Nat} {m n p : Memory} (h : Memory.WrittenWithin lo hi m n)
    (h' : Memory.WrittenWithin lo hi n p) : Memory.WrittenWithin lo hi m p :=
  ⟨fun hm => h'.1 (h.1 hm), fun a ha => (h'.2 a ha).trans (h.2 a ha)⟩

theorem isMemAddr_iff {a : Nat} : isMemAddr a = true ↔ 0x1000 ≤ a ∧ a < 0x4000 := by
  simp only [isMemAddr, Bool.and_eq_true, decide_eq_true_eq]
  simp only [dataInBase, streamBase, memSize]

/-- No write changes what is listed outside the byte memories. -/
theorem Memory.lookup_writeBytes_of_not_isMemAddr {m : Memory} {a b : Nat} {bs : List Byte} (hb : isMemAddr b = false) :
    Memory.lookup (Memory.writeBytes m a bs) b = Memory.lookup m b := by
  induction bs generalizing m a with
  | nil => rfl
  | cons v rest ih =>
    rw [Memory.writeBytes, ih]
    by_cases hab : b = a
    · subst hab; simp [Memory.write, hb]
    · exact Memory.lookup_write_other hab

/-- A run of writes stays within bounds that it fits, or whose end is that of the byte memories (R72). -/
theorem Memory.writtenWithin_writeBytes {lo hi a : Nat} {m : Memory} {bs : List Byte} (hlo : lo ≤ a)
    (hhi : a + bs.length ≤ hi ∨ 0x4000 ≤ hi) : Memory.WrittenWithin lo hi m (Memory.writeBytes m a bs) := by
  refine ⟨Memory.wf_writeBytes, fun b hb => ?_⟩
  by_cases hout : b < a ∨ a + bs.length ≤ b
  · exact Memory.lookup_writeBytes_outside hout
  · have hb' : isMemAddr b = false := by
      rw [Bool.eq_false_iff, ne_eq, isMemAddr_iff]; omega
    exact Memory.lookup_writeBytes_of_not_isMemAddr hb'

theorem writtenWithin_storeEcBlocks (s : State) (ec t : Nat) (blocks : List (List Byte)) :
    Memory.WrittenWithin 0x2000 0x4000 s.mem (s.storeEcBlocks ec t blocks).mem := by
  induction blocks generalizing s t with
  | nil => exact ⟨id, fun _ _ => rfl⟩
  | cons e rest ih =>
    have h := Memory.writtenWithin_writeBytes (m := s.mem) (bs := e) (Nat.le_add_right ecbufBase (t * ec))
      (.inr (Nat.le_refl 0x4000))
    exact h.trans (ih (s.storeBytes (ecbufBase + t * ec) e) (t + 1))

/-- EC_PIPELINE writes `ECBUF`, `STREAM`, STREAM_LEN and the engine's state, and nothing else (R130). -/
theorem ecPipelineEffect_eq (s : State) (b : BlockSpec) :
    ∃ m n e, Memory.WrittenWithin 0x2000 0x4000 s.mem m ∧
      s.ecPipelineEffect b = ((s.withMem m).withStreamLen n).withEngine e := by
  have hstream (m : Memory) (bs : List Byte) :
      Memory.WrittenWithin 0x2000 0x4000 m (Memory.writeBytes m streamBase bs) :=
    Memory.writtenWithin_writeBytes (by decide) (.inr (Nat.le_refl _))
  dsimp only [State.ecPipelineEffect]
  rw [storeEcBlocks_eq_withMem]
  exact ⟨_, _, _, (writtenWithin_storeEcBlocks s b.ec 0 _).trans (hstream _ _), rfl⟩

/-! The engine's state is apart from everything else: its update commutes past every other, and the last one stands. -/

section
variable (s : State) (e e' : Engine)

theorem withEngine_withMem (m : Memory) : (s.withEngine e).withMem m = (s.withMem m).withEngine e := rfl
theorem withEngine_withStreamLen (n : BitVec 13) :
    (s.withEngine e).withStreamLen n = (s.withStreamLen n).withEngine e := rfl
theorem withEngine_withMatrix (q : Option QrMatrix) :
    (s.withEngine e).withMatrix q = (s.withMatrix q).withEngine e := rfl
theorem withEngine_withWalk (wc wm : BitVec 16) (wp : WalkPos) :
    (s.withEngine e).withWalk wc wm wp = (s.withWalk wc wm wp).withEngine e := rfl
theorem withEngine_withEngine : (s.withEngine e).withEngine e' = s.withEngine e' := rfl
theorem withMatrix_withMatrix (q q' : Option QrMatrix) : (s.withMatrix q).withMatrix q' = s.withMatrix q' := rfl
theorem withWalk_withMatrix (q : Option QrMatrix) (wc wm : BitVec 16) (wp : WalkPos) :
    (s.withWalk wc wm wp).withMatrix q = (s.withMatrix q).withWalk wc wm wp := rfl

end

/-- GENERATE's first three phases: EC_PIPELINE's writes, and a fresh matrix with its functional patterns (R202). -/
theorem generatePrepare_eq (s : State) (v : Version) (b : BlockSpec) :
    ∃ m n e, Memory.WrittenWithin 0x2000 0x4000 s.mem m ∧
      s.generatePrepare v b =
        (((s.withMem m).withStreamLen n).withMatrix (some (paintFunctional (QrMatrix.new v)))).withEngine e := by
  obtain ⟨m, n, e, hm, he⟩ := ecPipelineEffect_eq (s.enterPhase .ec) b
  simp only [State.generatePrepare, he]
  simp only [State.enterPhase, State.matNewEffect, State.paintEffect, withEngine_withMem,
    withEngine_withStreamLen, withEngine_withMatrix, withEngine_withEngine, withMatrix_withMatrix]
  exact ⟨m, n, _, hm, rfl⟩

/-- GENERATE's last three phases: the walk's registers, and a matrix with the same bits past its modules (R202). -/
theorem generateFinish_eq (s : State) (m : Fin 8) (q : QrMatrix) :
    ∃ q' wc wm wp e, SameTail q q' ∧
      s.generateFinish m q = ((s.withMatrix (some q')).withWalk wc wm wp).withEngine e := by
  have htail := (sameTail_runWalk (s.walkInput m) q).trans
    ((sameTail_paintFormat s.cfg.level m _).trans (sameTail_paintVersion _))
  simp only [State.generateFinish, State.enterPhase, State.walkEffect, State.paintEffect, withEngine_withMatrix,
    withEngine_withWalk, withEngine_withEngine, withWalk_withMatrix, withMatrix_withMatrix]
  exact ⟨_, _, _, _, _, htail, rfl⟩

/-- Everything a command that raises no error does (R26 to R29, R36, R46, R147): the kinds of effect, each with what is
common to the commands that have it. -/
inductive CommandEffect (s : State) : Instr → State → Prop where
  | nothing : CommandEffect s .nop s
  | result {i : Instr} (r : Result) (hi : writesResult i = true) : CommandEffect s i (s.withResult r)
  | matrix {i : Instr} (q : QrMatrix) (e : Engine) (hi : writesMatrix i = true) (hq : s.MatrixClear → q.tailClear) :
    CommandEffect s i ((s.withMatrix (some q)).withEngine e)
  | ecbuf (k : Nat) (m : Memory) (e : Engine) (hm : Memory.WrittenWithin 0x2000 0x3000 s.mem m) :
    CommandEffect s (.rsBlock k) ((s.withMem m).withEngine e)
  | codewords (m : Memory) (n : BitVec 13) (e : Engine) (hm : Memory.WrittenWithin 0x2000 0x4000 s.mem m) :
    CommandEffect s .ecPipeline (((s.withMem m).withStreamLen n).withEngine e)
  | walk (q : QrMatrix) (wc wm : BitVec 16) (wp : WalkPos) (e : Engine) (hq : s.MatrixClear → q.tailClear) :
    CommandEffect s .walk (((s.withMatrix (some q)).withWalk wc wm wp).withEngine e)
  | generate (m : Memory) (n : BitVec 13) (q : QrMatrix) (wc wm : BitVec 16) (wp : WalkPos) (e : Engine)
    (hm : Memory.WrittenWithin 0x2000 0x4000 s.mem m) (hq : q.tailClear) :
    CommandEffect s .generate ((((s.withMem m).withStreamLen n).withMatrix (some q)).withWalk wc wm wp |>.withEngine e)

theorem tailClear_new (v : Version) : (QrMatrix.new v).tailClear := fun p _ => planeBit_new v p

/-- A painter command has the effect of a matrix command: its steps keep what is past the modules (R150). -/
theorem commandEffect_of_paint {i : Instr} {s t : State} {paint : QrMatrix → QrMatrix} {passes : QrMatrix → Nat}
    (hi : writesMatrix i = true) (hp : ∀ q, SameTail q (paint q)) (h : painterBody s paint passes = .ok t) :
    CommandEffect s i t := by
  obtain ⟨q, hq, rfl⟩ := painterBody_ok.mp h
  exact .matrix (paint q) _ hi fun hc => (hp q).tailClear (hc q hq)

theorem commandEffect_of_rsBlock {k : Nat} {s t : State} (h : rsBlockBody k s = .ok t) :
    CommandEffect s (.rsBlock k) t := by
  obtain ⟨⟨hk0, hk⟩, -, hfit, rfl⟩ := rsBlockBody_ok.mp h
  refine .ecbuf k _ _ (Memory.writtenWithin_writeBytes (Nat.le_add_right _ _) (.inl ?_))
  have hlen : (rsRem (s.loadBytes (dataInBase + s.arg0.toNat) s.arg1.toNat) k).length = k := by
    rw [rsRem, List.length_drop, rsWorking_length (by omega) hk]; omega
  simp only [memSize] at hfit
  simp only [hlen, ecbufBase]; omega

/-- A command whose checks pass has one of the effects above. -/
theorem commandEffect_of_body {i : Instr} {s t : State} (h : commandBody i s = .ok t) : CommandEffect s i t := by
  cases i with
  | nop => cases h; exact .nothing
  | matNew =>
    obtain ⟨v, -, rfl⟩ := matNewBody_ok.mp h
    exact .matrix _ s.engine rfl fun _ => tailClear_new v
  | matPut x y v f =>
    obtain ⟨q, hq, ht⟩ := bind_eq_ok.mp h
    cases ht
    exact .matrix _ s.engine rfl fun hc => (sameTail_put q x y v f).tailClear (hc q (matrixOperand_ok.mp hq))
  | matGet x y =>
    obtain ⟨q, -, ht⟩ := bind_eq_ok.mp h
    cases ht
    exact .result _ rfl
  | gfAdd a b => cases h; exact .result _ rfl
  | gfMul a b => cases h; exact .result _ rfl
  | gfExp n =>
    obtain ⟨_, -, ht⟩ := bind_eq_ok.mp h
    cases ht
    exact .result _ rfl
  | gfLog v =>
    obtain ⟨_, -, ht⟩ := bind_eq_ok.mp h
    cases ht
    exact .result _ rfl
  | rsBlock k => exact commandEffect_of_rsBlock h
  | ecPipeline =>
    obtain ⟨v, -, -, rfl⟩ := ecPipelineBody_ok.mp h
    obtain ⟨m, n, e, hm, he⟩ := ecPipelineEffect_eq s (blockSpec v s.cfg.level)
    rw [he]
    exact .codewords m n e hm
  | paintFinders => exact commandEffect_of_paint rfl sameTail_paintFinders h
  | paintSeparators => exact commandEffect_of_paint rfl sameTail_paintSeparators h
  | paintAlignment => exact commandEffect_of_paint rfl sameTail_paintAlignment h
  | paintTiming => exact commandEffect_of_paint rfl sameTail_paintTiming h
  | paintDark => exact commandEffect_of_paint rfl sameTail_paintDark h
  | reserveFormat => exact commandEffect_of_paint rfl sameTail_reserveFormat h
  | reserveVersion => exact commandEffect_of_paint rfl sameTail_reserveVersion h
  | paintFunctional => exact commandEffect_of_paint rfl sameTail_paintFunctional h
  | paintVersion => exact commandEffect_of_paint rfl sameTail_paintVersion h
  | paintFormat =>
    obtain ⟨m, q, -, hq, rfl⟩ := paintFormatBody_ok.mp h
    exact .matrix _ _ rfl fun hc => (sameTail_paintFormat s.cfg.level m q).tailClear (hc q hq)
  | walk =>
    obtain ⟨m, q, -, hq, -, rfl⟩ := walkBody_ok.mp h
    exact .walk _ _ _ _ _ fun hc => (sameTail_runWalk (s.walkInput m) q).tailClear (hc q hq)
  | generate =>
    obtain ⟨v, k, -, -, -, rfl⟩ := generateBody_ok.mp h
    obtain ⟨m, n, e, hm, hprep⟩ := generatePrepare_eq s v (blockSpec v s.cfg.level)
    rw [State.generateEffect, hprep]
    obtain ⟨q, wc, wm, wp, e', hq, hfin⟩ := generateFinish_eq _ k (paintFunctional (QrMatrix.new v))
    rw [hfin, withEngine_withMatrix, withEngine_withWalk, withEngine_withEngine, withMatrix_withMatrix]
    exact .generate m n q wc wm wp e' hm (hq.tailClear ((sameTail_paintFunctional _).tailClear (tailClear_new v)))

end Sys2Proof.Machine

/-! PROOF. The invariant, the writers of each output and of STATUS (10_state.md, 60_exceptions.md). -/

namespace Sys2Proof.Machine

/-! ## STATUS is consistent after each of its writers -/

theorem Status.consistent_start (st : Status) : st.start.consistent := by simp [Status.consistent, Status.start]

theorem Status.consistent_raise (st : Status) (c : CmdError) : (st.raise c).consistent := by
  simp [Status.consistent, Status.raise]

theorem Status.consistent_complete {st : Status} (h : st.consistent) : st.complete.consistent :=
  ⟨h.1, fun hb => by cases hb⟩

theorem Status.consistent_overrun {st : Status} (h : st.consistent) : st.overrun.consistent := h

/-- The host's write-1-to-clear, field by field (R24). -/
theorem Status.w1c_eq (st : Status) (w : Word) :
    st.w1c w = { busy := st.busy
                 done := st.done && !(w.getLsbD 1)
                 err := st.err && !(w.getLsbD 2)
                 errcode := if w.getLsbD 2 then none else st.errcode
                 ovr := st.ovr && !(w.getLsbD 8) } := by
  unfold Status.w1c
  cases w.getLsbD 1 <;> cases w.getLsbD 2 <;> cases w.getLsbD 8 <;> simp [Status.ackError]

/-- Bit 2 clears ERR and ERRCODE together, and no bit sets anything (R24). -/
theorem Status.consistent_w1c {st : Status} (h : st.consistent) (w : Word) : (st.w1c w).consistent := by
  obtain ⟨herr, hbusy⟩ := h
  rw [Status.w1c_eq]
  refine ⟨?_, fun hb => by simp [hbusy hb]⟩
  cases w.getLsbD 2
  · simpa using herr
  · simp

/-! ## The invariant -/

theorem State.Inv.mem {s : State} (h : s.Inv) : Memory.wf s.mem = true := h.1
theorem State.Inv.status {s : State} (h : s.Inv) : s.status.consistent := h.2.1
theorem State.Inv.matrixClear {s : State} (h : s.Inv) : s.MatrixClear := h.2.2

theorem State.Inv.withStatus {s : State} {st : Status} (h : s.Inv) (hst : st.consistent) : (s.withStatus st).Inv :=
  ⟨h.mem, hst, h.matrixClear⟩

theorem State.Inv.storeBytes {s : State} (h : s.Inv) (a : Nat) (bs : List Byte) : (s.storeBytes a bs).Inv :=
  ⟨Memory.wf_writeBytes h.mem, h.status, h.matrixClear⟩

theorem reset_inv : State.reset.Inv :=
  ⟨rfl, by simp [Status.consistent, State.reset], fun q hq => by cases hq⟩

/-- A write to a register changes no memory and no matrix, and STATUS by a start or by write-1-to-clear only. -/
theorem State.Inv.writeCsr {s : State} (h : s.Inv) (off : Nat) (w : Word) : (s.writeCsr off w).Inv := by
  rcases writeCsr_cases s off w with hc | hc | hc | hc | ⟨v, hc⟩ | ⟨v, hc⟩ | ⟨v, hc⟩ | ⟨v, hc⟩ | ⟨v, hc⟩ <;> rw [hc]
  · exact h
  · exact h.withStatus (Status.consistent_start _)
  · exact h.withStatus (Status.consistent_w1c h.status w)
  all_goals exact h

theorem State.Inv.hostWrite {s : State} (h : s.Inv) (a n : Nat) (w : Word) : (s.hostWrite a n w).Inv := by
  rcases hostWrite_cases s a n w with hc | ⟨-, hc⟩ | ⟨-, hc⟩ | ⟨-, hc | hc⟩ <;> rw [hc]
  · exact h
  · exact h.writeCsr a w
  · exact h.storeBytes a _
  · exact h.withStatus (Status.consistent_w1c h.status w)
  · exact h.withStatus (Status.consistent_overrun h.status)

theorem State.Inv.transact {s : State} (h : s.Inv) (r : Request) : (s.transact r).Inv := by
  rcases transact_cases s r with ⟨p, hc⟩ | ⟨n, p, -, -, hc⟩ <;> rw [hc]
  · exact h
  · exact h.hostWrite r.addr.toNat n r.wdata

/-- No effect of a command writes STATUS: its completion does (R211). -/
theorem CommandEffect.status {i : Instr} {s t : State} (h : CommandEffect s i t) : t.status = s.status := by
  cases h <;> rfl

/-- The effects of a command keep the invariant: its writes go to the byte memories, and its matrix is clear past its
modules where the one before is, or is made from a fresh one. -/
theorem CommandEffect.inv {i : Instr} {s t : State} (h : CommandEffect s i t) (hs : s.Inv) : t.Inv := by
  obtain ⟨hmem, hst, hmat⟩ := hs
  have hsome {q : QrMatrix} (hq : q.tailClear) : ∀ q', some q = some q' → q'.tailClear := by
    rintro q' ⟨rfl⟩; exact hq
  cases h with
  | nothing => exact ⟨hmem, hst, hmat⟩
  | result r hi => exact ⟨hmem, hst, hmat⟩
  | matrix q e hi hq => exact ⟨hmem, hst, hsome (hq hmat)⟩
  | ecbuf k m e hm => exact ⟨hm.1 hmem, hst, hmat⟩
  | codewords m n e hm => exact ⟨hm.1 hmem, hst, hmat⟩
  | walk q wc wm wp e hq => exact ⟨hmem, hst, hsome (hq hmat)⟩
  | generate m n q wc wm wp e hm hq => exact ⟨hm.1 hmem, hst, hsome hq⟩

theorem State.Inv.exec {i : Instr} {s t : State} (h : s.Inv) (he : exec i s = .next t) : t.Inv := by
  rcases exec_next_cases he with ⟨u, hu, rfl⟩ | ⟨c, rfl⟩
  · have hinv := (commandEffect_of_body hu).inv h
    exact hinv.withStatus (Status.consistent_complete hinv.status)
  · exact h.withStatus (Status.consistent_raise _ c)

/-- Settles O16: a step is a transaction, a reset, a command or an error, and each keeps the invariant. -/
theorem everyStepKeepsTheInvariant : Obligations.EveryStepKeepsTheInvariant := by
  intro s t hs h
  obtain ⟨ts, hc⟩ := step_next_cases h
  have hu : (s.withTurns ts).Inv := hs
  rcases hc with ⟨r, -, rfl⟩ | ⟨-, rfl⟩ | ⟨-, -, i, -, he⟩ | ⟨-, -, rfl⟩ | ⟨-, -, rfl⟩
  · exact hu.transact r
  · exact reset_inv
  · exact hu.exec he
  · exact hu.withStatus (Status.consistent_raise _ _)
  · exact hu

/-! ## The writers of the outputs -/

/-- An address outside the bounds of the writes reads as before. -/
theorem memByte_of_writtenWithin {s t : State} {lo hi a : Nat} (hm : Memory.WrittenWithin lo hi s.mem t.mem)
    (he : t.epoch = s.epoch) (ha : ¬(lo ≤ a ∧ a < hi)) : t.memByte a = s.memByte a := by
  simp only [State.memByte, hm.2 a ha, he]

/-- What an effect of command `i` leaves of the outputs: those that are not its own. -/
theorem CommandEffect.outputs {i : Instr} {s t : State} (h : CommandEffect s i t) :
    (writesResult i = false → t.result = s.result) ∧
    (writesMatrix i = false → t.matrix = s.matrix) ∧
    (i ≠ .walk → i ≠ .generate →
      t.walkCount = s.walkCount ∧ t.walkMods = s.walkMods ∧ t.walkPos = s.walkPos) ∧
    (i ≠ .ecPipeline → i ≠ .generate → t.streamLen = s.streamLen) ∧
    ∀ a, ¬ mayWriteByte i a → t.memByte a = s.memByte a := by
  cases h with
  | nothing => simp
  | result r hi => simp [hi, State.memByte]
  | matrix q e hi hq => simp [hi, State.memByte]
  | ecbuf k m e hm =>
    refine ⟨fun _ => rfl, fun _ => rfl, fun _ _ => ⟨rfl, rfl, rfl⟩, fun _ _ => rfl, fun a ha => ?_⟩
    exact memByte_of_writtenWithin hm rfl fun hr => ha (.inr ⟨⟨k, rfl⟩, hr⟩)
  | codewords m n e hm =>
    refine ⟨fun _ => rfl, fun _ => rfl, fun _ _ => ⟨rfl, rfl, rfl⟩, fun hi => absurd rfl hi, fun a ha => ?_⟩
    exact memByte_of_writtenWithin hm rfl fun hr => ha (.inl ⟨.inl rfl, hr⟩)
  | walk q wc wm wp e hq => simp [writesMatrix, State.memByte]
  | generate m n q wc wm wp e hm hq =>
    refine ⟨fun _ => rfl, fun hi => (by cases hi), fun _ hi => absurd rfl hi, fun _ hi => absurd rfl hi, fun a ha => ?_⟩
    exact memByte_of_writtenWithin hm rfl fun hr => ha (.inl ⟨.inr rfl, hr⟩)

/-- Settles O12: an error changes STATUS only, and otherwise the effects are those of `CommandEffect`. -/
theorem outputsHaveTheirOwnWriters : Obligations.OutputsHaveTheirOwnWriters := by
  intro i s t h
  rcases exec_next_cases h with ⟨u, hu, rfl⟩ | ⟨c, rfl⟩
  · exact (commandEffect_of_body hu).outputs
  · exact ⟨fun _ => rfl, fun _ => rfl, fun _ _ => ⟨rfl, rfl, rfl⟩, fun _ _ => rfl, fun _ _ => rfl⟩

/-! ## The writers of STATUS -/

theorem writeCsr_status (s : State) (off : Nat) (w : Word) :
    (s.writeCsr off w).status =
      if off = 0x08 then s.status.w1c w else if off = 0x04 then s.status.start else s.status := by
  by_cases h8 : off = 0x08
  · subst h8; rfl
  by_cases h4 : off = 0x04
  · subst h4; rfl
  rw [if_neg h8, if_neg h4]
  unfold State.writeCsr
  split
  case h_1 => exact absurd rfl h4
  case h_2 => exact absurd rfl h8
  all_goals rfl

/-- What a host write that is no bus error does to STATUS (R24, R210, R241). -/
theorem hostWrite_status (s : State) (a n : Nat) (w : Word) :
    (s.hostWrite a n w).status =
      if a = 0x08 then s.status.w1c w else if s.status.busy then s.status.overrun
      else if a = 0x04 then s.status.start else s.status := by
  unfold State.hostWrite
  cases s.status.busy
  · simp only [Bool.false_eq_true, if_false]
    by_cases hcsr : a < 0x100
    · rw [State.idleWrite, regionOf_eq_csr.mpr hcsr, ← writeCsr_status]
    · rw [if_neg (by omega), if_neg (by omega)]
      unfold State.idleWrite
      split
      · next hr => exact absurd (regionOf_eq_csr.mp hr) hcsr
      all_goals rfl
  · simp only [if_true]
    unfold State.busyWrite
    split <;> rfl

/-- The command in progress ends with or without an error (R211). -/
theorem exec_status {i : Instr} {s t : State} (h : exec i s = .next t) :
    t.status = doneStatus s.status ∨ ∃ c, t.status = errorStatus s.status c := by
  rcases exec_next_cases h with ⟨u, hu, rfl⟩ | ⟨c, rfl⟩
  · left
    rw [State.complete_status, (commandEffect_of_body hu).status]
    rfl
  · exact .inr ⟨c, rfl⟩

/-- Settles O14, by what a step can do and, for a host's write, by the address and BUSY. -/
theorem statusHasThreeWriters : Obligations.StatusHasThreeWriters := by
  intro s t h
  obtain ⟨ts, hc⟩ := step_next_cases h
  rcases hc with ⟨r, hs, rfl⟩ | ⟨hs, rfl⟩ | ⟨hb, hn, i, -, he⟩ | ⟨hb, hn, rfl⟩ | ⟨-, -, rfl⟩
  · rcases transact_cases (s.withTurns ts) r with ⟨p, hp⟩ | ⟨n, p, hw, hacc, hp⟩
    · rw [hp]; exact .inl rfl
    have hst := hostWrite_status (s.withTurns ts) r.addr.toNat n r.wdata
    rw [← State.respond_status _ p, ← hp] at hst
    have hlegal := accessBytes_eq_some.mp hacc
    split at hst
    · next h8 =>
      rw [Status.w1c_eq] at hst
      exact .inr (.inr (.inr ⟨r, ts, n, hs, hw, hlegal, .inr (.inl ⟨h8, hst⟩)⟩))
    next h8 =>
    split at hst
    · next hb => exact .inr (.inr (.inr ⟨r, ts, n, hs, hw, hlegal, .inr (.inr ⟨hb, h8, hst⟩)⟩))
    next hb =>
    split at hst
    · next h4 =>
      exact .inr (.inr (.inr ⟨r, ts, n, hs, hw, hlegal, .inl ⟨by simpa using hb, h4, hst⟩⟩))
    · exact .inl hst
  · exact .inr (.inr (.inl ⟨rfl, ts, hs⟩))
  · exact .inr (.inl ⟨hb, hn, exec_status (s := s.withTurns ts) he⟩)
  · exact .inr (.inl ⟨hb, hn, .inr ⟨_, rfl⟩⟩)
  · exact .inl rfl

end Sys2Proof.Machine

/-! PROOF. The registers as the host writes and reads them with BUSY = 0 (10_state.md R22 to R39). -/

namespace Sys2Proof.Machine

/-! ## Writes -/

/-- A register write stores the fields at their places in the word (R22 to R29, R39). -/
theorem writeCsr_eq_registerWritten (s : State) (off : Nat) (w : Word) :
    s.writeCsr off w = registerWritten s off w.toNat := by
  have hfield (lo n : Nat) : w.extractLsb' lo n = BitVec.ofNat n (w.toNat / 2 ^ lo) := by
    apply BitVec.eq_of_toNat_eq
    simp [BitVec.extractLsb', Nat.shiftRight_eq_div_pow]
  unfold State.writeCsr
  split
  case h_1 => simp [registerWritten, State.startCommand, State.withCmd, State.withStatus, Status.start]
  case h_2 => rw [Status.w1c_eq]; rfl
  case h_3 => simp [registerWritten, State.withCfg, cfgOfWord, hfield]
  case h_9 => simp only [registerWritten, *]
  all_goals
    simp [registerWritten, hfield, State.withArg0, State.withArg1, State.withArg2, State.withDataLen,
      State.withStreamLen]

/-- Settles O21: a legal write at a CSR's address is a register write, and the response adds nothing else. -/
theorem registersTakeTheirFields : Obligations.RegistersTakeTheirFields := by
  intro s r hlegal hcsr hw hb
  have hwrite : s.hostWrite r.addr.toNat 4 r.wdata = registerWritten s r.addr.toNat r.wdata.toNat := by
    rw [← writeCsr_eq_registerWritten, State.hostWrite, hb, if_neg (by decide), State.idleWrite,
      regionOf_eq_csr.mpr hcsr]
  refine ⟨Config.freeWord s.draws, ?_⟩
  rw [transact_of_write hlegal hw, hwrite]
  rfl

/-! ## Reads -/

/-- A word read at a CSR's offset is the register there. -/
theorem readLanes_csr {s : State} {a : Nat} (halign : a % 4 = 0) (hcsr : a < 0x100) : s.readLanes a 4 = s.csr a := by
  have hlane (l : Nat) (hl : l < 4) : s.readLane a 4 l = byteOf (s.csr a) l := by
    rw [State.readLane, if_pos (by omega), State.byteAt, regionOf_eq_csr.mpr (by omega)]
    simp only [show (a / 4 * 4 + l) / 4 * 4 = a by omega, show (a / 4 * 4 + l) % 4 = l by omega]
  rw [State.readLanes, hlane 3 (by omega), hlane 2 (by omega), hlane 1 (by omega), hlane 0 (by omega), wordOf_byteOf]

/-- Fields side by side make the sum of their values at their places. -/
theorem toNat_append_eq_add {m n : Nat} (x : BitVec m) (y : BitVec n) : (x ++ y).toNat = x.toNat * 2 ^ n + y.toNat := by
  rw [BitVec.toNat_append, ← Nat.shiftLeft_add_eq_or_of_lt y.isLt, Nat.shiftLeft_eq]

theorem statusWord_toNat (st : Status) :
    st.word.toNat = st.busy.toNat + 2 * st.done.toNat + 4 * st.err.toNat + 16 * errorNumber st.errcode
      + 256 * st.ovr.toNat := by
  have hcode : (errcodeField st.errcode).toNat = errorNumber st.errcode := by
    rcases st.errcode with _ | c
    · rfl
    · cases c <;> rfl
  simp only [Status.word, toNat_append_eq_add, BitVec.toNat_ofBool, BitVec.toNat_ofNat, hcode]
  omega

/-- Every cell of the block tables fits its fields of `PARAM0` to `PARAM2` (R31 to R33). -/
theorem blockSpec_fits (v : Version) (e : EcLevel) :
    let b := blockSpec v e
    (b.ec < 2 ^ 8 ∧ b.n1 < 2 ^ 8 ∧ b.n2 < 2 ^ 8 ∧ b.s1 < 2 ^ 8 ∧ b.s2 < 2 ^ 8) ∧
      b.dataTotal < 2 ^ 16 ∧ b.totalCw < 2 ^ 16 := by
  have hrows : ∀ r ∈ blockRows, ∀ b ∈ [r.l, r.m, r.q, r.h],
      (b.ec < 2 ^ 8 ∧ b.n1 < 2 ^ 8 ∧ b.n2 < 2 ^ 8 ∧ b.s1 < 2 ^ 8 ∧ b.s2 < 2 ^ 8) ∧
        b.dataTotal < 2 ^ 16 ∧ b.totalCw < 2 ^ 16 := by decide
  have hlen : v.row.val < blockRows.length := v.row.isLt
  simp only [blockSpec, List.getD_eq_getElem _ _ hlen]
  exact hrows _ (List.getElem_mem hlen) _ (by cases e <;> simp [BlockRow.at])

theorem shownBlocks_eq (s : State) :
    shownBlocks s = s.cfg.legalVersion.map fun v => (v, blockSpec v s.cfg.level) := rfl

theorem param0_toNat (s : State) : (param0 s.cfg).toNat = registerValue s 0x2C := by
  simp only [param0, registerValue, shownBlocks_eq]
  cases s.cfg.legalVersion with
  | none => rfl
  | some v =>
    obtain ⟨⟨hec, hn1, hn2, -, -⟩, -, -⟩ := blockSpec_fits v s.cfg.level
    simp only [Option.map_some, toNat_append_eq_add, BitVec.toNat_ofNat, Nat.mod_eq_of_lt hec, Nat.mod_eq_of_lt hn1,
      Nat.mod_eq_of_lt hn2]
    omega

theorem param1_toNat (s : State) : (param1 s.cfg).toNat = registerValue s 0x30 := by
  simp only [param1, registerValue, shownBlocks_eq]
  cases s.cfg.legalVersion with
  | none => rfl
  | some v =>
    obtain ⟨⟨-, -, -, hs1, hs2⟩, -, -⟩ := blockSpec_fits v s.cfg.level
    have hsize : 17 + 4 * v.num < 2 ^ 8 := Nat.lt_of_le_of_lt v.size_bounds.2 (by decide)
    simp only [Option.map_some, toNat_append_eq_add, BitVec.toNat_ofNat, Nat.mod_eq_of_lt hs1, Nat.mod_eq_of_lt hs2,
      Version.size, Nat.mod_eq_of_lt hsize]
    omega

theorem param2_toNat (s : State) : (param2 s.cfg).toNat = registerValue s 0x34 := by
  simp only [param2, registerValue, shownBlocks_eq]
  cases s.cfg.legalVersion with
  | none => rfl
  | some v =>
    obtain ⟨-, hd, ht⟩ := blockSpec_fits v s.cfg.level
    simp only [BlockSpec.totalCw, BlockSpec.dataTotal, BlockSpec.blockCount] at hd ht
    simp only [Option.map_some, toNat_append_eq_add, BlockSpec.totalCw, BlockSpec.dataTotal, BlockSpec.blockCount,
      BitVec.toNat_ofNat, Nat.mod_eq_of_lt hd, Nat.mod_eq_of_lt ht]
    omega

theorem levelOf_ordinal (e : BitVec 2) : (levelOf e).ordinal = e.toNat := by revert e; decide

theorem param3_toNat (s : State) : (param3 s.cfg).toNat = registerValue s 0x38 := by
  simp only [param3, registerValue, Cfg.legalMask]
  by_cases hm : s.cfg.mask.toNat < 8
  · rw [dif_pos hm, if_pos (by omega)]
    simp only [toNat_append_eq_add, fmtWord, Cfg.level, levelOf_ordinal, BitVec.toNat_ofNat]
    omega
  · rw [dif_neg hm, if_neg (by omega)]
    rfl

theorem param4_toNat (s : State) : (param4 s.cfg).toNat = registerValue s 0x3C := by
  simp only [param4, registerValue]
  split
  · simp only [toNat_append_eq_add, verWord, BitVec.toNat_ofNat]
    omega
  · rfl

theorem matInfoWord_toNat (s : State) : (matInfoWord s.matrix).toNat = registerValue s 0x28 := by
  simp only [registerValue]
  cases s.matrix with
  | none => rfl
  | some q =>
    have hrow := q.version.row.isLt
    simp only [matInfoWord, toNat_append_eq_add, BitVec.toNat_ofNat, Version.size, Version.num]
    omega

/-- Every register reads as the sum of its fields at their places, and 0 at the reserved offsets (R22 to R39). -/
theorem csr_toNat (s : State) (off : Nat) : (s.csr off).toNat = registerValue s off := by
  unfold State.csr
  split
  case h_1 | h_2 => rfl
  case h_3 => exact statusWord_toNat s.status
  case h_11 => exact matInfoWord_toNat s
  case h_12 => exact param0_toNat s
  case h_13 => exact param1_toNat s
  case h_14 => exact param2_toNat s
  case h_15 => exact param3_toNat s
  case h_16 => exact param4_toNat s
  case h_20 => simp only [registerValue, *]; rfl
  all_goals
    simp only [registerValue, Cfg.word, Result.word, word16, word13, WalkPos.word, toNat_append_eq_add,
      BitVec.toNat_ofBool, BitVec.toNat_ofNat]
    omega

/-- Settles O20: a legal read at a CSR's address with BUSY = 0 returns the register, field by field. -/
theorem registersReadTheirFields : Obligations.RegistersReadTheirFields := by
  intro s r hlegal hcsr hw hb
  have halign : r.addr.toNat % 4 = 0 := hlegal.2.1
  refine ⟨_, transact_of_read hlegal hw, ?_⟩
  rw [State.hostRead, hb, Bool.false_and, if_neg (by decide), readLanes_csr halign hcsr, csr_toNat]

end Sys2Proof.Machine

/-! PROOF. The read-only tables against their rules (10_state.md R50 to R58). -/

namespace Sys2Proof.Machine

/-! ## EXP, LOG and the product of powers of α -/

/-- One step along the `EXP` ROM is a multiplication by `α`, and the last step leads back to `EXP[0]` (R50). -/
theorem timesAlpha_expRom : ∀ i, i < 255 → timesAlpha (expRom i) = expRom ((i + 1) % 255) := by decide +kernel

theorem logRom_expRom : ∀ i, i < 255 → logRom (expRom i) = i := by decide +kernel

theorem expRom_logRom : ∀ v : Byte, v ≠ 0 → logRom v < 255 ∧ expRom (logRom v) = v := by decide +kernel

/-- The `EXP` ROM holds the powers of `α`, which repeat after 255 (R50). -/
theorem alphaPow_eq_expRom (n : Nat) : alphaPow n = expRom (n % 255) := by
  induction n with
  | zero => rfl
  | succ n ih => rw [alphaPow, ih, timesAlpha_expRom _ (Nat.mod_lt _ (by decide)), Nat.mod_add_mod]

/-- Settles O29: the tables agree slot by slot, and the powers by induction along `EXP`. -/
theorem expAndLogTables : Obligations.ExpAndLogTables := by
  refine ⟨fun i hi => ⟨?_, logRom_expRom i hi⟩, expRom_logRom⟩
  rw [alphaPow_eq_expRom, Nat.mod_eq_of_lt hi]

theorem timesAlpha_zero : timesAlpha 0 = 0 := rfl

/-- A byte taken where just one of two bits is set is the sum of the byte taken for each. -/
theorem ite_xor (c d : Bool) (x : Byte) :
    (if (c ^^ d) then x else 0) = (if c then x else 0) ^^^ (if d then x else 0) := by
  cases c <;> cases d <;> simp

theorem timesAlpha_xor (a b : Byte) : timesAlpha (a ^^^ b) = timesAlpha a ^^^ timesAlpha b := by
  have hsum (c : Byte) : timesAlpha c = (c <<< 1) ^^^ (if c.getLsbD 7 then 0x1D else 0) := by
    unfold timesAlpha; split <;> simp
  rw [hsum, hsum a, hsum b, BitVec.shiftLeft_xor_distrib, BitVec.getLsbD_xor, ite_xor]
  ac_rfl

theorem timesAlpha_ite (c : Bool) (a : Byte) : timesAlpha (if c then a else 0) = if c then timesAlpha a else 0 := by
  rw [apply_ite timesAlpha, timesAlpha_zero]

/-- `α⁸ = α⁴ + α³ + α² + 1`, which is R49's polynomial `0x11D`. -/
theorem timesAlpha_iterate_eight : ∀ a : Byte,
    timesAlpha^[8] a = a ^^^ timesAlpha^[2] a ^^^ timesAlpha^[3] a ^^^ timesAlpha^[4] a := by decide +kernel

/-- The bits of `b·x`: a shift, and `0x1D` where the top bit falls out (R49). -/
theorem getLsbD_timesAlpha : ∀ b : Byte,
    (timesAlpha b).getLsbD 0 = b.getLsbD 7 ∧ (timesAlpha b).getLsbD 1 = b.getLsbD 0 ∧
    (timesAlpha b).getLsbD 2 = (b.getLsbD 1 ^^ b.getLsbD 7) ∧ (timesAlpha b).getLsbD 3 = (b.getLsbD 2 ^^ b.getLsbD 7) ∧
    (timesAlpha b).getLsbD 4 = (b.getLsbD 3 ^^ b.getLsbD 7) ∧ (timesAlpha b).getLsbD 5 = b.getLsbD 4 ∧
    (timesAlpha b).getLsbD 6 = b.getLsbD 5 ∧ (timesAlpha b).getLsbD 7 = b.getLsbD 6 := by decide +kernel

/-- Multiplying a factor by `α` multiplies the product by `α`. -/
theorem polyMul_timesAlpha (a b : Byte) : polyMul a (timesAlpha b) 8 = timesAlpha (polyMul a b 8) := by
  have hand (c : Bool) (x y : Byte) : (if c then x ^^^ y else 0) = (if c then x else 0) ^^^ (if c then y else 0) := by
    cases c <;> simp
  obtain ⟨h0, h1, h2, h3, h4, h5, h6, h7⟩ := getLsbD_timesAlpha b
  simp only [polyMul, h0, h1, h2, h3, h4, h5, h6, h7, timesAlpha_xor, timesAlpha_zero, timesAlpha_ite,
    ← Function.iterate_succ_apply' timesAlpha, Nat.succ_eq_add_one, Nat.reduceAdd, timesAlpha_iterate_eight, ite_xor, hand,
    Function.iterate_zero, id]
  ac_rfl

theorem polyMul_one (a : Byte) : polyMul a 1 8 = a := by simp [polyMul]

/-- The carry-less product of powers of `α` is the power of the sum (R118). -/
theorem polyMul_alphaPow (i j : Nat) : polyMul (alphaPow i) (alphaPow j) 8 = alphaPow (i + j) := by
  induction j with
  | zero => exact polyMul_one _
  | succ j ih => rw [alphaPow, polyMul_timesAlpha, ih]; rfl

/-! ## The generator polynomials -/

/-- Row `k + 1` of the generator ROM follows from row `k` by the factor `x − αᵏ`, in log form (R55). -/
theorem genRow_succ : ∀ k, k < 68 → 1 ≤ k →
    List.zipWith (fun a l => a ^^^ expRom ((l + k) % 255)) ((genRow k).map (fun l => expRom (l % 255)) ++ [0])
      (0 :: genRow k) = (genRow (k + 1)).map fun l => expRom (l % 255) := by
  decide +kernel

theorem expRom_ne_zero : ∀ i, i < 255 → expRom i ≠ 0 := by decide +kernel

theorem genRow_lt : ∀ k, k < 69 → ∀ l ∈ genRow k, l < 255 := by decide +kernel

/-- The generator polynomial has the ROM's exponents (R55). -/
theorem generatorPoly_eq_map {k : Nat} (h1 : 1 ≤ k) (h68 : k ≤ 68) : generatorPoly k = (genRow k).map alphaPow := by
  induction k, h1 using Nat.le_induction with
  | base => rfl
  | succ k hk ih =>
    have hrow := genRow_succ k (by omega) hk
    simp only [← alphaPow_eq_expRom] at hrow
    rw [← hrow, generatorPoly, ih (by omega)]
    simp only [show (1 : Byte) :: (genRow k).map alphaPow = (0 :: genRow k).map alphaPow from rfl,
      List.zipWith_map_right, polyMul_alphaPow]

theorem genRow_eq_generatorPoly {k : Nat} (h1 : 1 ≤ k) (h68 : k ≤ 68) :
    genRow k = (generatorPoly k).map logRom ∧ (0 : Byte) ∉ generatorPoly k := by
  have hpow (l : Nat) (hl : l ∈ genRow k) : alphaPow l = expRom l := by
    rw [alphaPow_eq_expRom, Nat.mod_eq_of_lt (genRow_lt k (by omega) l hl)]
  rw [generatorPoly_eq_map h1 h68, List.map_congr_left hpow]
  constructor
  · have hlog (l : Nat) (hl : l ∈ genRow k) : (logRom ∘ expRom) l = l := logRom_expRom l (genRow_lt k (by omega) l hl)
    rw [List.map_map, List.map_congr_left hlog, List.map_id']
  · intro h0
    obtain ⟨l, hl, h0⟩ := List.mem_map.mp h0
    exact expRom_ne_zero l (genRow_lt k (by omega) l hl) h0

/-! ## The BCH words, the pattern bitmaps and the tables of versions -/

/-- The format words are the BCH code words of level and mask, masked with `0x5412` (R56). -/
theorem fmtWord_toNat (e : EcLevel) (m : Fin 8) :
    (fmtWord e m).toNat =
      let d := levelIndicator e * 8 + m.val
      (d * 2 ^ 10 ||| gf2Rem 0x537 10 5 (d * 2 ^ 10)) ^^^ 0x5412 := by
  cases e <;> revert m <;> decide

/-- The version words are the BCH code words of the version (R57). -/
theorem verWord_toNat : ∀ v, v ≤ 40 → 7 ≤ v →
    (verWord v).toNat = v * 2 ^ 12 ||| gf2Rem 0x1F25 12 6 (v * 2 ^ 12) := by decide +kernel

/-- A finder is light in its ring 2 only (R58). -/
theorem finderBit_eq : ∀ r, r < 7 → ∀ c, c < 7 → finderBit r c = decide (ringOf 3 3 c r ≠ 2) := by decide +kernel

/-- An alignment pattern is light in its ring 1 only (R58). -/
theorem alignBit_eq : ∀ r, r < 5 → ∀ c, c < 5 → alignBit r c = decide (ringOf 2 2 c r ≠ 1) := by decide +kernel

/-- The block table's totals are the raw capacities, with 7 to 30 EC codewords and a second group one longer (R51 to R53). -/
theorem blockSpec_rules (v : Version) (e : EcLevel) :
    (blockSpec v e).totalCw = v.raw / 8 ∧ 7 ≤ (blockSpec v e).ec ∧ (blockSpec v e).ec ≤ 30 ∧
    (0 < (blockSpec v e).n2 → (blockSpec v e).s2 = (blockSpec v e).s1 + 1) := by
  obtain ⟨row⟩ := v
  cases e <;> revert row <;> decide +kernel

/-- The alignment centres run from 6 to `S − 7` in steps of at least 12 (R54). -/
theorem alignCenters_rules (v : Version) :
    let a := alignCenters v
    (v.num = 1 → a = []) ∧
    (2 ≤ v.num → a.head? = some 6 ∧ a.getLast? = some (v.size - 7) ∧
      ∀ i, i + 1 < a.length → a.getD i 0 + 12 ≤ a.getD (i + 1) 0) := by
  have hrows : ∀ row : Fin 40, let v : Version := ⟨row⟩; let a := alignCenters v
      (v.num = 1 → a = []) ∧
      (2 ≤ v.num → (a.head? = some 6 ∧ a.getLast? = some (v.size - 7)) ∧
        ∀ i, i < a.length - 1 → a.getD i 0 + 12 ≤ a.getD (i + 1) 0) := by decide +kernel
  obtain ⟨hone, hmore⟩ := hrows v.row
  refine ⟨hone, fun hv => ?_⟩
  obtain ⟨⟨hfirst, hlast⟩, hsteps⟩ := hmore hv
  exact ⟨hfirst, hlast, fun i hi => hsteps i (Nat.lt_sub_of_add_lt hi)⟩

/-- Settles O30, table by table. -/
theorem tablesFollowTheirRules : Obligations.TablesFollowTheirRules :=
  ⟨fun _ h1 h68 => genRow_eq_generatorPoly h1 h68, fmtWord_toNat, fun v h7 h40 => verWord_toNat v h40 h7,
    fun r c hr hc => finderBit_eq r hr c hc, fun r c hr hc => alignBit_eq r hr c hc, blockSpec_rules, alignCenters_rules⟩

end Sys2Proof.Machine

/-! PROOF. The host's transactions and the memory map (20_memory.md R71 to R88). -/

namespace Sys2Proof.Machine

/-! ## What the engine leaves to the host -/

/-- Every effect of a command is a chain of updates of other fields than the host's registers, the bus, the schedule and
the block's parameters (R88). -/
theorem CommandEffect.hostFields {i : Instr} {s t : State} (h : CommandEffect s i t) :
    t.cmd = s.cmd ∧ t.cfg = s.cfg ∧ t.arg0 = s.arg0 ∧ t.arg1 = s.arg1 ∧ t.arg2 = s.arg2 ∧
    t.dataLen = s.dataLen ∧ t.rsp = s.rsp ∧ t.turns = s.turns ∧ t.epoch = s.epoch ∧ t.draws = s.draws ∧
    t.params = s.params := by
  cases h <;> simp

/-- No command may write a byte of `DATA_IN` (R45). -/
theorem not_mayWriteByte_of_lt {i : Instr} {a : Nat} (ha : a < 0x2000) : ¬ mayWriteByte i a := by
  rintro (⟨-, h, -⟩ | ⟨-, h, -⟩) <;> omega

/-- Settles O11: the registers by the kinds of effect, `DATA_IN` by the outputs' own writers; an error changes STATUS only. -/
theorem engineNeverWritesHostInputs : Obligations.EngineNeverWritesHostInputs := by
  intro i s t h
  have hdata (a : Nat) (ha : a < 0x2000) : t.memByte a = s.memByte a := by
    obtain ⟨-, -, -, -, hmem⟩ := outputsHaveTheirOwnWriters i s t h
    exact hmem a (not_mayWriteByte_of_lt ha)
  rcases exec_next_cases h with ⟨u, hu, rfl⟩ | ⟨c, rfl⟩
  · obtain ⟨hcmd, hcfg, h0, h1, h2, hlen, hrsp, hturns, hepoch, hdraws, hparams⟩ := (commandEffect_of_body hu).hostFields
    exact ⟨hcmd, hcfg, h0, h1, h2, hlen, hrsp, hturns, hepoch, hdraws, hparams, hdata⟩
  · exact ⟨rfl, rfl, rfl, rfl, rfl, rfl, rfl, rfl, rfl, rfl, rfl, hdata⟩

/-! ## Bus errors and reads -/

/-- Settles O18: an illegal request is answered with the error bit and nothing else, a legal one without it. -/
theorem busErrorsChangeNothing : Obligations.BusErrorsChangeNothing := by
  refine fun s r => ⟨fun h => ⟨_, transact_of_illegal h⟩, fun ⟨n, h⟩ => ?_⟩
  cases hw : r.write with
  | false => rw [transact_of_read h hw]; exact ⟨_, rfl, rfl⟩
  | true => rw [transact_of_write h hw]; exact ⟨_, rfl, rfl⟩

/-- Settles O19: a read is a bus error or it is answered with its data. -/
theorem readsChangeNothing : Obligations.ReadsChangeNothing := by
  intro s r hw
  by_cases h : ∃ n, legalRequest r n
  · obtain ⟨n, hn⟩ := h
    exact ⟨_, _, transact_of_read hn hw⟩
  · exact ⟨_, _, transact_of_illegal h⟩

/-! ## The regions of the address map -/

theorem regionOf_mem {a : Nat} (h : isMemAddr a = true) :
    regionOf a = .dataIn ∨ regionOf a = .ecbuf ∨ regionOf a = .stream := by
  rw [isMemAddr_iff] at h
  unfold regionOf
  rw [if_neg (by omega), if_neg (by omega)]
  by_cases h2 : a < 0x2000
  · simp [h2]
  by_cases h3 : a < 0x3000
  · simp [h2, h3]
  · simp [h2, h3, h.2]

theorem regionOf_matv {a : Nat} (h : 0x4000 ≤ a ∧ a < 0x5000) : regionOf a = .matv := by
  unfold regionOf
  iterate 5 rw [if_neg (by omega)]
  rw [if_pos h.2]

theorem regionOf_matf {a : Nat} (h : 0x5000 ≤ a ∧ a < 0x6000) : regionOf a = .matf := by
  unfold regionOf
  iterate 6 rw [if_neg (by omega)]
  rw [if_pos h.2]

theorem regionOf_reserved {a : Nat} (h : (0x100 ≤ a ∧ a < 0x1000) ∨ 0x6000 ≤ a) : regionOf a = .reserved := by
  unfold regionOf
  rw [if_neg (by omega)]
  rcases h with ⟨-, h⟩ | h
  · rw [if_pos h]
  · iterate 6 rw [if_neg (by omega)]

theorem byteAt_mem {s : State} {a : Nat} (h : isMemAddr a = true) : s.byteAt a = s.memByte a := by
  unfold State.byteAt
  rcases regionOf_mem h with hr | hr | hr <;> rw [hr]

theorem byteAt_reserved {s : State} {a : Nat} (h : (0x100 ≤ a ∧ a < 0x1000) ∨ 0x6000 ≤ a) : s.byteAt a = 0 := by
  rw [State.byteAt, regionOf_reserved h]

/-- A legal access that starts in a byte memory ends there (R77). -/
theorem isMemAddr_add {r : Request} {n k : Nat} (h : legalRequest r n) (hr : isMemAddr r.addr.toNat = true) (hk : k < n) :
    isMemAddr (r.addr.toNat + k) = true := by
  rw [isMemAddr_iff] at hr ⊢
  obtain ⟨⟨-, rfl⟩ | ⟨-, rfl⟩ | ⟨-, rfl⟩, halign, -⟩ := h <;> omega

/-- A legal access that starts in a reserved range ends there (R77). -/
theorem reserved_add {r : Request} {n k : Nat} (h : legalRequest r n)
    (hr : (0x100 ≤ r.addr.toNat ∧ r.addr.toNat < 0x1000) ∨ 0x6000 ≤ r.addr.toNat) (hk : k < n) :
    (0x100 ≤ r.addr.toNat + k ∧ r.addr.toNat + k < 0x1000) ∨ 0x6000 ≤ r.addr.toNat + k := by
  obtain ⟨⟨-, rfl⟩ | ⟨-, rfl⟩ | ⟨-, rfl⟩, halign, -⟩ := h <;> omega

/-! ## Transactions with BUSY = 0 -/

/-- With BUSY = 0 a legal read returns the bytes of the address map on their lanes (R74, R75). -/
theorem idle_read_returns_bytes {s : State} {r : Request} {n : Nat} (h : legalRequest r n) (hw : r.write = false)
    (hb : s.status.busy = false) :
    ∃ d, s.transact r = responded s d false ∧
      ∀ k, k < n → byteOf d ((r.addr.toNat + k) % 4) = s.byteAt (r.addr.toNat + k) := by
  refine ⟨s.readLanes r.addr.toNat n, ?_, fun k hk => byteOf_readLanes_covered h hk⟩
  rw [transact_of_read h hw, State.hostRead, hb, Bool.false_and, if_neg (by decide)]

/-- Settles O22: a byte memory's bytes are those the map places at its addresses. -/
theorem memoryReadsReturnTheBytes : Obligations.MemoryReadsReturnTheBytes := by
  intro s r n h hr hw hb
  obtain ⟨d, hd, hbytes⟩ := idle_read_returns_bytes h hw hb
  exact ⟨d, hd, fun k hk => (hbytes k hk).trans (byteAt_mem (isMemAddr_add h hr hk))⟩

theorem hostWrite_mem {s : State} {a n : Nat} {w : Word} (h : isMemAddr a = true) (hb : s.status.busy = false) :
    s.hostWrite a n w = s.storeBytes a (laneBytes a n w) := by
  rw [State.hostWrite, hb, if_neg (by decide), State.idleWrite]
  rcases regionOf_mem h with hr | hr | hr <;> rw [hr]

@[simp] theorem laneBytes_length (a n : Nat) (w : Word) : (laneBytes a n w).length = n := by simp [laneBytes]

/-- Settles O23: inside the access a byte is the one stored from its lane, outside it is as before. -/
theorem memoryWritesStoreTheBytes : Obligations.MemoryWritesStoreTheBytes := by
  intro s r n h hr hw hb
  have ht := transact_of_write (s := s) h hw
  rw [hostWrite_mem hr hb] at ht
  refine ⟨_, _, ht, fun a => ?_⟩
  have hmem : (s.transact r).memByte a =
      (s.storeBytes r.addr.toNat (laneBytes r.addr.toNat n r.wdata)).memByte a := by rw [ht]; rfl
  rw [hmem]
  split
  · next hin =>
    obtain ⟨k, rfl⟩ := Nat.exists_eq_add_of_le hin.1
    have hk : k < n := by omega
    rw [memByte_storeBytes_inside (by simpa using hk) (isMemAddr_add h hr hk)]
    simp [laneBytes]
  · next hout => exact memByte_storeBytes_outside (by rw [laneBytes_length]; omega)

/-! ## The windows and the reserved ranges -/

/-- A write to a window or a reserved range is ignored; while BUSY it is dropped and sets OVR (R79, R80, R241). -/
theorem hostWrite_ignored {s : State} {a n : Nat} {w : Word} (h : (0x100 ≤ a ∧ a < 0x1000) ∨ 0x4000 ≤ a) :
    s.hostWrite a n w = s.withStatus (if s.status.busy then s.status.overrun else s.status) := by
  unfold State.hostWrite
  cases s.status.busy with
  | true => simp only [if_true, State.busyWrite, if_neg (show a ≠ 0x08 by omega)]
  | false =>
    have hr : regionOf a = .matv ∨ regionOf a = .matf ∨ regionOf a = .reserved := by
      by_cases hv : 0x4000 ≤ a ∧ a < 0x5000
      · exact .inl (regionOf_matv hv)
      by_cases hf : 0x5000 ≤ a ∧ a < 0x6000
      · exact .inr (.inl (regionOf_matf hf))
      · exact .inr (.inr (regionOf_reserved (by omega)))
    simp only [Bool.false_eq_true, if_false, State.idleWrite]
    rcases hr with hr | hr | hr <;> rw [hr] <;> rfl

/-- Settles O25: a reserved range holds 0 at every address, and a write there or to a window is ignored. -/
theorem windowsAndReservedRanges : Obligations.WindowsAndReservedRanges := by
  refine fun s r n h => ⟨fun hr hw hb => ?_, fun hr hw => ?_⟩
  · obtain ⟨d, hd, hbytes⟩ := idle_read_returns_bytes h hw hb
    exact ⟨d, hd, fun k hk => (hbytes k hk).trans (byteAt_reserved (reserved_add h hr hk))⟩
  · have ht := transact_of_write (s := s) h hw
    rw [hostWrite_ignored hr] at ht
    exact ⟨_, _, ht, fun hb => by rw [hb, if_neg (by decide)]⟩

/-! ## The requests of host scripts -/

/-- An aligned access of a host script outside the CSR range is a legal request (R77). -/
theorem legalRequest_sizeCode {wr : Bool} {a n : Nat} {w : Word} (hn : n = 1 ∨ n = 2 ∨ n = 4) (halign : a % n = 0)
    (hlo : 0x100 ≤ a) (hhi : a < 0x10000) :
    legalRequest { write := wr, addr := BitVec.ofNat 16 a, size := sizeCode n, wdata := w } n := by
  refine ⟨?_, ?_⟩
  · rcases hn with rfl | rfl | rfl <;> simp [sizeCode]
  · rw [BitVec.toNat_ofNat, Nat.mod_eq_of_lt hhi]
    exact ⟨halign, fun h => by omega⟩

/-- With BUSY = 0, `MemRead(a, n)` returns the `n` bytes that the map places from `a` up (R74, R75). -/
theorem idle_memRead {s : State} {a n : Nat} (hn : n = 1 ∨ n = 2 ∨ n = 4) (halign : a % n = 0)
    (hlo : 0x100 ≤ a) (hhi : a < 0x10000) (hb : s.status.busy = false) :
    ∃ d, s.transact (memRead a n) = responded s d false ∧
      ∀ k, k < n → byteOf d ((a + k) % 4) = s.byteAt (a + k) := by
  have haddr : (memRead a n).addr.toNat = a := by rw [memRead, BitVec.toNat_ofNat, Nat.mod_eq_of_lt hhi]
  have h := idle_read_returns_bytes (r := memRead a n) (legalRequest_sizeCode hn halign hlo hhi) rfl hb
  rwa [haddr] at h

/-- The value of a byte access is the byte on its lane (R75). -/
theorem offLanes_one (a : Nat) (d : Word) : offLanes a 1 d = (byteOf d (a % 4)).toNat := by
  rw [offLanes, byteOf, BitVec.extractLsb'_toNat, BitVec.toNat_ushiftRight]

/-- The value of a half word has its low byte on the lane of its address and its high byte on the next (R75). -/
theorem offLanes_two (a : Nat) (d : Word) :
    offLanes a 2 d = (byteOf d (a % 4)).toNat + 2 ^ 8 * (byteOf d (a % 4 + 1)).toNat := by
  have hnext : d.toNat >>> (8 * (a % 4 + 1)) = d.toNat >>> (8 * (a % 4)) / 2 ^ 8 := by
    rw [Nat.mul_add, Nat.shiftRight_add, Nat.shiftRight_eq_div_pow _ (8 * 1)]
  rw [offLanes, byteOf, byteOf, BitVec.extractLsb'_toNat, BitVec.extractLsb'_toNat, BitVec.toNat_ushiftRight, hnext]
  omega

/-- With BUSY = 0, `MemRead(a, n)` of a byte memory answers with the bytes that stand there (R74, R75). -/
theorem idle_memRead_mem {s : State} {a n : Nat} (hn : n = 1 ∨ n = 2 ∨ n = 4) (halign : a % n = 0)
    (ha : 0x1000 ≤ a ∧ a + n ≤ 0x4000) (hb : s.status.busy = false) :
    ∃ p, (s.transact (memRead a n)).rsp = some p ∧
      ∀ k, k < n → byteOf p.rdata ((a + k) % 4) = s.memByte (a + k) := by
  obtain ⟨d, hd, hbytes⟩ := idle_memRead hn halign (by omega) (by omega) hb
  exact ⟨_, congrArg State.rsp hd, fun k hk => (hbytes k hk).trans (byteAt_mem (isMemAddr_iff.mpr (by omega)))⟩

/-- Settles O24: the write stores 1, 2, 3, 4, and each read returns the bytes it covers. -/
theorem mixedWidthExample : Obligations.MixedWidthExample := by
  intro s hb t
  obtain ⟨d, m, ht, hmem⟩ := memoryWritesStoreTheBytes s (memWrite 0x1000 4 0x04030201) 4
    (legalRequest_sizeCode (by decide) (by decide) (by decide) (by decide)) (by decide) rfl hb
  have hbt : t.status.busy = false := (congrArg (·.status.busy) ht).trans hb
  have hlane : ∀ i < 4, byteOf (onLanes 0x1000 0x04030201) ((0x1000 + i) % 4) = BitVec.ofNat 8 (i + 1) := by decide
  have hbyte (i : Nat) (hi : i < 4) : t.memByte (0x1000 + i) = BitVec.ofNat 8 (i + 1) := by
    have hin : 0x1000 ≤ 0x1000 + i ∧ 0x1000 + i < 0x1000 + 4 := by omega
    exact (hmem _).trans ((if_pos hin).trans (hlane i hi))
  refine ⟨?_, ?_, ?_⟩
  · obtain ⟨p, hp, hread⟩ := idle_memRead_mem (a := 0x1001) (n := 1) (by decide) (by decide) (by decide) hbt
    have h1 : byteOf p.rdata (0x1001 % 4) = 2 := (hread 0 (by decide)).trans (hbyte 1 (by decide))
    exact ⟨p, hp, by rw [offLanes_one, h1]; rfl⟩
  · obtain ⟨p, hp, hread⟩ := idle_memRead_mem (a := 0x1002) (n := 2) (by decide) (by decide) (by decide) hbt
    have h2 : byteOf p.rdata (0x1002 % 4) = 3 := (hread 0 (by decide)).trans (hbyte 2 (by decide))
    have h3 : byteOf p.rdata (0x1002 % 4 + 1) = 4 := (hread 1 (by decide)).trans (hbyte 3 (by decide))
    exact ⟨p, hp, by rw [offLanes_two, h2, h3]; rfl⟩
  · have hload : t.loadBytes 0x1000 4 = (List.range 4).map fun i => BitVec.ofNat 8 (i + 1) :=
      List.map_congr_left fun i hi => hbyte i (List.mem_range.mp hi)
    rw [hload]
    rfl

/-! ## The planes in their windows -/

/-- The window of 4096 bytes at `base` shows the plane `p` (R73). -/
def State.ShowsPlane (s : State) (base : Nat) (p : Plane) : Prop := ∀ i, i < 4096 → s.byteAt (base + i) = planeByte p i

theorem showsPlane_matv {s : State} {q : QrMatrix} (hq : s.matrix = some q) : s.ShowsPlane 0x4000 q.value := by
  intro i hi
  rw [State.byteAt, regionOf_matv (by omega)]
  simp only [State.windowByte, hq, Nat.add_sub_cancel_left]

theorem showsPlane_matf {s : State} {q : QrMatrix} (hq : s.matrix = some q) : s.ShowsPlane 0x5000 q.functional := by
  intro i hi
  rw [State.byteAt, regionOf_matf (by omega)]
  simp only [State.windowByte, hq, Nat.add_sub_cancel_left]

theorem getLsbD_planeByte {p : Plane} {i b : Nat} (hb : b < 8) :
    (planeByte p i).getLsbD b = planeBit p (8 * i + b) := by
  rw [planeByte, BitVec.getLsbD_extractLsb', decide_eq_true hb, Bool.true_and, planeBit]

/-- Bit `b` of a word is bit `b mod 8` of its byte `b div 8`. -/
theorem getLsbD_eq_byteOf (d : Word) (b : Nat) : d.getLsbD b = (byteOf d (b / 8)).getLsbD (b % 8) := by
  rw [byteOf, BitVec.getLsbD_extractLsb', decide_eq_true (Nat.mod_lt _ (by decide)), Bool.true_and, Nat.div_add_mod]

section
variable {s : State} {base : Nat} {p : Plane} {w : Nat}

/-- A byte read of a window returns eight plane bits (R73). -/
theorem memRead_window_byte (hp : s.ShowsPlane base p) (hbase : base = 0x4000 ∨ base = 0x5000)
    (hb : s.status.busy = false) (hw : w < 1024) {k : Nat} (hk : k < 4) :
    ∃ d, s.transact (memRead (base + 4 * w + k) 1) = responded s d false ∧
      ∀ b, b < 8 → (byteOf d k).getLsbD b = planeBit p (8 * (4 * w + k) + b) := by
  obtain ⟨d, hd, hbytes⟩ := idle_memRead (a := base + 4 * w + k) (n := 1) (.inl rfl) (Nat.mod_one _) (by omega)
    (by omega) hb
  refine ⟨d, hd, fun b hb8 => ?_⟩
  have hbyte := hbytes 0 (by decide)
  rw [Nat.add_zero, show (base + 4 * w + k) % 4 = k by omega, Nat.add_assoc, hp _ (by omega)] at hbyte
  rw [hbyte, getLsbD_planeByte hb8]

/-- A word read of a window returns 32 plane bits, the lowest in bit 0 (R73). -/
theorem memRead_window_word (hp : s.ShowsPlane base p) (hbase : base = 0x4000 ∨ base = 0x5000)
    (hb : s.status.busy = false) (hw : w < 1024) :
    ∃ d, s.transact (memRead (base + 4 * w) 4) = responded s d false ∧
      ∀ b, b < 32 → d.getLsbD b = planeBit p (32 * w + b) := by
  obtain ⟨d, hd, hbytes⟩ := idle_memRead (a := base + 4 * w) (n := 4) (.inr (.inr rfl)) (by omega) (by omega)
    (by omega) hb
  refine ⟨d, hd, fun b hb32 => ?_⟩
  have hbyte := hbytes (b / 8) (by omega)
  rw [show (base + 4 * w + b / 8) % 4 = b / 8 by omega, Nat.add_assoc, hp _ (by omega)] at hbyte
  rw [getLsbD_eq_byteOf, hbyte, getLsbD_planeByte (by omega), show 8 * (4 * w + b / 8) + b % 8 = 32 * w + b by omega]

end

/-- The module at `(x, y)` in bounds is plane bit `x + S·y` of both planes (R44, R141). -/
theorem get_natCast {q : QrMatrix} {x y : Nat} (hx : x < q.size) (hy : y < q.size) :
    q.get x y = some { value := planeBit q.value (x + q.size * y),
                       functional := planeBit q.functional (x + q.size * y) } := by
  rw [QrMatrix.get, if_pos ((inb_iff q x y).mpr (by omega))]
  rfl

/-- Settles O28: each window shows its plane byte by byte, and a module is one bit of each plane. -/
theorem windowsShowThePlanes : Obligations.WindowsShowThePlanes := by
  intro s q w hb hq hw
  have hv := showsPlane_matv hq
  have hf := showsPlane_matf hq
  refine ⟨fun k hk => ⟨memRead_window_byte hv (.inl rfl) hb hw hk, memRead_window_byte hf (.inr rfl) hb hw hk⟩,
    memRead_window_word hv (.inl rfl) hb hw, memRead_window_word hf (.inr rfl) hb hw, fun x y hx hy hidx => ?_⟩
  rw [← hidx]
  exact get_natCast hx hy

end Sys2Proof.Machine

/-! PROOF. Decoding against the opcode map, the opcode table and the list of illegal words (30_encoding.md R96 to R109). -/

namespace Sys2Proof.Machine

/-! ## The rows of the map -/

/-- The opcode of a row finds that row: no two rows share an opcode (R103). -/
theorem find?_opcodeRows : ∀ r ∈ opcodeRows, opcodeRows.find? (fun q => q.opc == r.opc) = some r := by
  intro r hr
  fin_cases hr <;> rfl

/-- A listed opcode decides the row: the word is that row's command, or has a reserved bit that is 1 (R104). -/
theorem decode_of_mem {r : OpcodeRow} {w : Word} (hr : r ∈ opcodeRows) (hopc : byteOf w 0 = r.opc) :
    decode w = if reservedClear r.format w then .ok (r.build (byteOf w 1) (byteOf w 2) (byteOf w 3))
      else .error .reservedBits := by
  simp only [decode, hopc, find?_opcodeRows r hr]

theorem decode_of_unlisted {w : Word} (h : ∀ r ∈ opcodeRows, byteOf w 0 ≠ r.opc) :
    decode w = .error .unlistedOpcode := by
  have hnone : opcodeRows.find? (fun r => r.opc == byteOf w 0) = none := by
    simpa only [List.find?_eq_none, beq_iff_eq] using fun r hr => (h r hr).symm
  simp only [decode, hnone]

/-- The row a decoded word was read by. -/
theorem exists_row_of_decode_eq_ok {w : Word} {i : Instr} (h : decode w = .ok i) :
    ∃ r ∈ opcodeRows, byteOf w 0 = r.opc ∧ reservedClear r.format w = true ∧
      i = r.build (byteOf w 1) (byteOf w 2) (byteOf w 3) := by
  obtain ⟨r, hr, hclear, hi⟩ := decode_ok h
  have hopc : (r.opc == byteOf w 0) = true := List.find?_some (p := fun r : OpcodeRow => r.opc == byteOf w 0) hr
  exact ⟨r, List.mem_of_find?_eq_some hr, (beq_iff_eq.mp hopc).symm, hclear, hi⟩

/-- The words that decode have the opcode of a row and that row's reserved bits clear (R104). -/
theorem exists_decode_eq_ok_iff (w : Word) :
    (∃ i, decode w = .ok i) ↔ ∃ r ∈ opcodeRows, byteOf w 0 = r.opc ∧ reservedClear r.format w = true := by
  constructor
  · rintro ⟨i, hi⟩
    obtain ⟨r, hr, hopc, hclear, -⟩ := exists_row_of_decode_eq_ok hi
    exact ⟨r, hr, hopc, hclear⟩
  · rintro ⟨r, hr, hopc, hclear⟩
    exact ⟨_, by rw [decode_of_mem hr hopc, if_pos hclear]⟩

/-! ## Decoding after encoding -/

theorem decode_wordOf {r : OpcodeRow} {b3 b2 b1 b0 : Byte} (hr : opcodeRows.find? (fun q => q.opc == b0) = some r)
    (hclear : reservedClear r.format (wordOf b3 b2 b1 b0) = true) :
    decode (wordOf b3 b2 b1 b0) = .ok (r.build b1 b2 b3) := by
  simp only [decode, byteOf_wordOf_zero, byteOf_wordOf_one, byteOf_wordOf_two, byteOf_wordOf_three, hr, hclear, if_true]

/-- Settles O1, by the command: the row its opcode finds builds it again from the bytes `encode` laid out. -/
theorem decodeOfEncode : Obligations.DecodeOfEncode := by
  intro i hi
  cases i with
  | matPut x y v f =>
    obtain ⟨hx, hy⟩ := Bool.and_eq_true_iff.mp hi
    rw [encode, decode_wordOf rfl (by simp [reservedClear, modulePutByte_reserved])]
    simp only [toNat_fieldOf hx, toNat_fieldOf hy, modulePutByte_v, modulePutByte_f]
  | matGet x y =>
    obtain ⟨hx, hy⟩ := Bool.and_eq_true_iff.mp hi
    rw [encode, decode_wordOf rfl (by simp [reservedClear])]
    simp only [toNat_fieldOf hx, toNat_fieldOf hy]
  | gfAdd a b => rw [encode, decode_wordOf rfl (by simp [reservedClear])]
  | gfMul a b => rw [encode, decode_wordOf rfl (by simp [reservedClear])]
  | gfExp n =>
    rw [encode, decode_wordOf rfl (by simp [reservedClear])]
    simp only [toNat_fieldOf hi]
  | gfLog v => rw [encode, decode_wordOf rfl (by simp [reservedClear])]
  | rsBlock k =>
    rw [encode, decode_wordOf rfl (by simp [reservedClear])]
    simp only [toNat_fieldOf hi]
  | nop | matNew | ecPipeline | paintFinders | paintSeparators | paintAlignment | paintTiming | paintDark
  | reserveFormat | reserveVersion | paintFunctional | walk | paintFormat | paintVersion | generate => rfl

/-! ## Encoding after decoding -/

/-- Byte 3 of format MP is its two flags when its reserved bits are 0 (R99). -/
theorem modulePutByte_getLsbD : ∀ t : Byte, t.extractLsb' 2 6 = 0 → modulePutByte (t.getLsbD 0) (t.getLsbD 1) = t := by
  decide +kernel

/-- A row builds a command that fits its fields (R102). -/
theorem wellFormed_build {r : OpcodeRow} (hr : r ∈ opcodeRows) (b1 b2 b3 : Byte) :
    (r.build b1 b2 b3).wellFormed = true := by
  fin_cases hr <;> simp [Instr.wellFormed, fitsField_toNat]

/-- A row builds a command whose encoding is the word it was read from. -/
theorem encode_build {r : OpcodeRow} (hr : r ∈ opcodeRows) {b3 b2 b1 : Byte}
    (hclear : reservedClear r.format (wordOf b3 b2 b1 r.opc) = true) :
    encode (r.build b1 b2 b3) = wordOf b3 b2 b1 r.opc := by
  fin_cases hr <;>
    simp only [reservedClear, byteOf_wordOf_one, byteOf_wordOf_two, byteOf_wordOf_three, Bool.and_eq_true,
      beq_iff_eq] at hclear <;>
    simp only [encode, hclear, fieldOf_toNat, modulePutByte_getLsbD]

/-- Settles O2: a word that decodes is made of the bytes its row read, and `encode` lays them out again. -/
theorem encodeOfDecode : Obligations.EncodeOfDecode := by
  intro w
  refine ⟨fun i hi => ?_, fun e he => by rw [disasm, he]⟩
  have hshown : disasm w = .command i.mnemonic i.operands := by rw [disasm, hi]
  obtain ⟨r, hr, hopc, hclear, rfl⟩ := exists_row_of_decode_eq_ok hi
  have hword : wordOf (byteOf w 3) (byteOf w 2) (byteOf w 1) r.opc = w := by rw [← hopc, wordOf_byteOf]
  rw [← hword] at hclear
  exact ⟨wellFormed_build hr _ _ _, (encode_build hr hclear).trans hword, hshown⟩

/-! ## The opcode table -/

/-- The mask of a format: its opcode byte and its reserved bits (R96 to R101). -/
def formatMask (fmt : Format) : Word :=
  match fmt with
  | .n => wordOf 0xFF 0xFF 0xFF 0xFF
  | .g2 | .mg => wordOf 0xFF 0x00 0x00 0xFF
  | .g1 | .k => wordOf 0xFF 0xFF 0x00 0xFF
  | .mp => wordOf 0xFC 0x00 0x00 0xFF

/-- The opcode table has a row for each row of the map, with the mask of its format. -/
theorem opcodeMasks_eq : opcodeMasks = opcodeRows.map (fun r => (formatMask r.format, wordOf 0 0 0 r.opc)) := by
  decide +kernel

theorem wordOf_inj {a3 a2 a1 a0 b3 b2 b1 b0 : Byte} :
    wordOf a3 a2 a1 a0 = wordOf b3 b2 b1 b0 ↔ a3 = b3 ∧ a2 = b2 ∧ a1 = b1 ∧ a0 = b0 := by
  constructor
  · intro h
    exact ⟨by simpa using congrArg (byteOf · 3) h, by simpa using congrArg (byteOf · 2) h,
      by simpa using congrArg (byteOf · 1) h, by simpa using congrArg (byteOf · 0) h⟩
  · rintro ⟨rfl, rfl, rfl, rfl⟩; rfl

theorem byte_and_FC : ∀ t : Byte, t &&& 0xFC#8 = 0#8 ↔ t.extractLsb' 2 6 = 0#6 := by decide +kernel

theorem byte_and_FF (b : Byte) : b &&& 0xFF#8 = b := BitVec.and_allOnes

/-- Under the mask of a format a word is its opcode and its reserved bits. -/
theorem and_formatMask_eq_iff (fmt : Format) (w : Word) (opc : Byte) :
    w &&& formatMask fmt = wordOf 0 0 0 opc ↔ byteOf w 0 = opc ∧ reservedClear fmt w = true := by
  rw [← wordOf_byteOf w]
  cases fmt <;>
    simp only [formatMask, reservedClear, Laws.TableRow.wordOf_and, wordOf_inj, byte_and_FC, byte_and_FF,
      BitVec.and_zero, BitVec.ofNat_eq_ofNat, byteOf_wordOf_zero, byteOf_wordOf_one, byteOf_wordOf_two,
      byteOf_wordOf_three, Bool.and_eq_true, beq_iff_eq] <;>
    tauto

/-- Settles O4: a row of the table is the row of the map with its opcode, and the opcodes of the map differ. -/
theorem decodableWordsMatchOneRow : Obligations.DecodableWordsMatchOneRow := by
  have hopcodes : opcodeRows.Pairwise (fun r q => r.opc ≠ q.opc) := by decide +kernel
  rw [Obligations.DecodableWordsMatchOneRow, opcodeMasks_eq]
  refine ⟨fun w => ?_, List.pairwise_map.mpr (hopcodes.imp fun hne w ⟨hr, hq⟩ => hne ?_)⟩
  · simp only [exists_decode_eq_ok_iff, List.mem_map, exists_exists_and_eq_and, and_formatMask_eq_iff]
  · exact ((and_formatMask_eq_iff _ w _).mp hr).1.symm.trans ((and_formatMask_eq_iff _ w _).mp hq).1

/-! ## The word as a number -/

theorem byteOf_toNat (w : Word) (i : Nat) : (byteOf w i).toNat = w.toNat / 2 ^ (8 * i) % 256 := by
  rw [byteOf, BitVec.extractLsb'_toNat, Nat.shiftRight_eq_div_pow]

/-- A byte is its opcode exactly when the word's low eight bits are. -/
theorem byteOf_zero_eq_iff (w : Word) (b : Byte) : byteOf w 0 = b ↔ w.toNat % 256 = b.toNat := by
  rw [← BitVec.toNat_inj, byteOf_toNat, Nat.mul_zero, Nat.pow_zero, Nat.div_one]

/-- The lowest reserved bit of a format; every bit above it is reserved too (R96 to R101). -/
def lowestReserved (fmt : Format) : Nat :=
  match fmt with
  | .n => 8
  | .g2 | .mg => 24
  | .g1 | .k => 16
  | .mp => 26

/-- The reserved bits are the word's bits from the lowest one up. -/
theorem reservedClear_iff (fmt : Format) (w : Word) :
    reservedClear fmt w = true ↔ w.toNat / 2 ^ lowestReserved fmt = 0 := by
  have hw := w.isLt
  cases fmt <;>
    simp only [reservedClear, lowestReserved, Bool.and_eq_true, beq_iff_eq, ← BitVec.toNat_inj, byteOf_toNat,
      BitVec.extractLsb'_toNat, Nat.shiftRight_eq_div_pow, BitVec.ofNat_eq_ofNat, BitVec.toNat_ofNat, Nat.reduceMul,
      Nat.reducePow] <;>
    omega

/-! ## The opcode map read from the word -/

theorem wordCommand_of_mem {r : OpcodeRow} {w : Word} (hr : r ∈ opcodeRows) (hopc : w.toNat % 256 = r.opc.toNat) :
    wordCommand w.toNat = if w.toNat / 2 ^ lowestReserved r.format = 0
      then some (r.build (byteOf w 1) (byteOf w 2) (byteOf w 3)) else none := by
  have h1 : w.toNat / 2 ^ 8 % 256 = (byteOf w 1).toNat := (byteOf_toNat w 1).symm
  have h2 : w.toNat / 2 ^ 16 % 256 = (byteOf w 2).toNat := (byteOf_toNat w 2).symm
  have hv : w.toNat.testBit 24 = (byteOf w 3).getLsbD 0 := getLsbD_eq_byteOf w 24
  have hf : w.toNat.testBit 25 = (byteOf w 3).getLsbD 1 := getLsbD_eq_byteOf w 25
  fin_cases hr <;> simp only [wordCommand, hopc, h1, h2, hv, hf, BitVec.ofNat_toNat, BitVec.setWidth_eq] <;> rfl

theorem wordCommand_of_unlisted {n : Nat} (h : ∀ r ∈ opcodeRows, n % 256 ≠ r.opc.toNat) : wordCommand n = none := by
  have hopcodes : n % 256 ∉ opcodeRows.map (fun r => r.opc.toNat) := by
    simpa only [List.mem_map, not_exists, not_and] using fun r hr => (h r hr).symm
  unfold wordCommand
  extract_lets
  split
  case h_23 => rfl
  all_goals exact absurd (by rw [‹n % 256 = _›]; decide) hopcodes

/-- Settles O3, by whether the opcode is listed: a listed one has a row that gives both readings, and an unlisted one
gives no command in either. -/
theorem decodeReadsTheOpcodeMap : Obligations.DecodeReadsTheOpcodeMap := by
  intro w
  by_cases hlisted : ∃ r ∈ opcodeRows, byteOf w 0 = r.opc
  · obtain ⟨r, hr, hopc⟩ := hlisted
    rw [decode_of_mem hr hopc, wordCommand_of_mem hr ((byteOf_zero_eq_iff w _).mp hopc)]
    simp only [reservedClear_iff]
    by_cases hclear : w.toNat / 2 ^ lowestReserved r.format = 0
    · simp only [if_pos hclear]
    · simp only [if_neg hclear]
  · push Not at hlisted
    rw [decode_of_unlisted hlisted, wordCommand_of_unlisted fun r hr => (byteOf_zero_eq_iff w _).not.mp (hlisted r hr)]

/-! ## Illegal words -/

/-- R105's list is what R103 does not list. -/
theorem illegalOpcode_iff {n : Nat} (hn : n < 256) : illegalOpcode n ↔ ∀ r ∈ opcodeRows, n ≠ r.opc.toNat := by
  simp only [illegalOpcode, opcodeRows, opcodeRowsLow, opcodeRowsHigh, List.cons_append, List.nil_append, List.mem_cons,
    List.not_mem_nil, or_false, forall_eq_or_imp, forall_eq, BitVec.ofNat_eq_ofNat, BitVec.toNat_ofNat, Nat.reducePow,
    Nat.reduceMod]
  omega

theorem reservedFrom_eq : ∀ r ∈ opcodeRows, reservedFrom r.opc.toNat = lowestReserved r.format := by decide

/-- The illegal words are those that do not decode (R104, R105). -/
theorem illegalWord_iff (w : Word) : illegalWord w ↔ ∃ e, decode w = .error e := by
  have hn : w.toNat % 256 < 256 := Nat.mod_lt _ (by decide)
  by_cases hlisted : ∃ r ∈ opcodeRows, byteOf w 0 = r.opc
  · obtain ⟨r, hr, hopc⟩ := hlisted
    have hnum := (byteOf_zero_eq_iff w _).mp hopc
    have hlegal : ¬illegalOpcode (w.toNat % 256) := fun h => (illegalOpcode_iff hn).mp h r hr hnum
    rw [illegalWord, or_iff_right hlegal, hnum, reservedFrom_eq r hr, decode_of_mem hr hopc, Ne, ← reservedClear_iff]
    cases reservedClear r.format w <;> simp
  · push Not at hlisted
    have hillegal := (illegalOpcode_iff hn).mpr fun r hr => (byteOf_zero_eq_iff w _).not.mp (hlisted r hr)
    exact ⟨fun _ => ⟨_, decode_of_unlisted hlisted⟩, fun _ => .inl hillegal⟩

/-- While BUSY, the engine's turn is the engine's action (R210). -/
theorem nextAction_of_engineNext {s : State} (hb : s.status.busy = true) (hn : engineNext s) :
    nextAction s = .engine (s.withTurns s.turns.tail) := by
  rcases hn with hs | ⟨ts, hs⟩
  · have hsame : s.withTurns s.turns.tail = s := by rw [hs, List.tail_nil, State.withTurns, ← hs]
    rw [hsame, nextAction, hs]
    simp only [engineAction, hb, if_true]
  · rw [nextAction, hs]
    simp only [engineAction, State.withTurns_status, hb, if_true, List.tail_cons]

/-- The engine's turn on a word that is no command raises ILLEGAL_COMMAND (R105). -/
theorem step_of_decode_error {s : State} {e : Illegal} (hb : s.status.busy = true) (hn : engineNext s)
    (he : decode s.cmd = .error e) :
    step s = .next ((s.withTurns s.turns.tail).raiseCmdError .illegalCommand) := by
  rw [step, nextAction_of_engineNext hb hn]
  simp only [State.fetch, State.withTurns_cmd, he, raiseIllegal]

/-- Settles O5: R105's words are those `decode` rejects, and the engine's turn on such a word only raises the error. -/
theorem illegalWordsEndAtOnce : Obligations.IllegalWordsEndAtOnce := by
  refine ⟨illegalWord_iff, fun s hb hn hw => ?_⟩
  obtain ⟨e, he⟩ := (illegalWord_iff s.cmd).mp hw
  exact step_of_decode_error hb hn he

/-- Settles O6: each word is closed, and `decode` evaluates on it. -/
theorem specWordsDecode : Obligations.SpecWordsDecode := by
  unfold Obligations.SpecWordsDecode
  decide

end Sys2Proof.Machine

/-! PROOF. The GF(256) commands and the laws of the field (40_gf.md R115 to R123). -/

namespace Sys2Proof.Machine

/-! ## The carry-less product -/

@[simp] theorem timesAlpha_iterate_zero (n : Nat) : timesAlpha^[n] 0#8 = 0#8 := Function.iterate_fixed timesAlpha_zero n

@[simp] theorem polyMul_zero_left (b : Byte) (n : Nat) : polyMul 0#8 b n = 0#8 := by
  induction n with
  | zero => rfl
  | succ n ih => simp [polyMul, ih]

@[simp] theorem polyMul_zero_right (a : Byte) (n : Nat) : polyMul a 0#8 n = 0#8 := by
  induction n with
  | zero => rfl
  | succ n ih => simp [polyMul, ih]

/-- The product is linear in its second factor, bit by bit. -/
theorem polyMul_xor_right (a b c : Byte) (n : Nat) : polyMul a (b ^^^ c) n = polyMul a b n ^^^ polyMul a c n := by
  induction n with
  | zero => exact (BitVec.xor_self (x := 0)).symm
  | succ n ih =>
    simp only [polyMul, ih, BitVec.getLsbD_xor, ite_xor]
    ac_rfl

/-! ## Every nonzero element is a power of α -/

/-- A nonzero element is the power of `α` that its logarithm names (R50). -/
theorem alphaPow_logRom {a : Byte} (ha : a ≠ 0) : alphaPow (logRom a) = a := by
  obtain ⟨hlt, hexp⟩ := expRom_logRom a ha
  rw [alphaPow_eq_expRom, Nat.mod_eq_of_lt hlt, hexp]

theorem eq_zero_or_eq_alphaPow (a : Byte) : a = 0 ∨ ∃ i, a = alphaPow i :=
  or_iff_not_imp_left.mpr fun ha => ⟨logRom a, (alphaPow_logRom ha).symm⟩

/-! ## The table product -/

@[simp] theorem gfMulByte_zero_left (b : Byte) : gfMulByte 0#8 b = 0#8 := if_pos (.inl rfl)

@[simp] theorem gfMulByte_zero_right (a : Byte) : gfMulByte a 0#8 = 0#8 := if_pos (.inr rfl)

/-- Away from 0 the tables add exponents (R117). -/
theorem gfMulByte_of_ne_zero {a b : Byte} (ha : a ≠ 0) (hb : b ≠ 0) :
    gfMulByte a b = alphaPow (logRom a + logRom b) := by
  rw [gfMulByte, if_neg (not_or.mpr ⟨ha, hb⟩), alphaPow_eq_expRom]

/-- The tables compute the carry-less product modulo `0x11D` (R118): both add the exponents of nonzero factors. -/
theorem gfMulByte_eq_polyMul (a b : Byte) : gfMulByte a b = polyMul a b 8 := by
  by_cases ha : a = 0
  · simp [ha]
  by_cases hb : b = 0
  · simp [hb]
  calc gfMulByte a b = alphaPow (logRom a + logRom b) := gfMulByte_of_ne_zero ha hb
    _ = polyMul (alphaPow (logRom a)) (alphaPow (logRom b)) 8 := (polyMul_alphaPow _ _).symm
    _ = polyMul a b 8 := by rw [alphaPow_logRom ha, alphaPow_logRom hb]

theorem gfMulByte_alphaPow (i j : Nat) : gfMulByte (alphaPow i) (alphaPow j) = alphaPow (i + j) := by
  rw [gfMulByte_eq_polyMul, polyMul_alphaPow]

/-! ## The field laws -/

theorem gfMulByte_comm (a b : Byte) : gfMulByte a b = gfMulByte b a := by
  simp only [gfMulByte, or_comm, Nat.add_comm]

/-- On powers of `α` the product is the sum of exponents, which is associative; 0 absorbs. -/
theorem gfMulByte_assoc (a b c : Byte) : gfMulByte (gfMulByte a b) c = gfMulByte a (gfMulByte b c) := by
  obtain rfl | ⟨i, rfl⟩ := eq_zero_or_eq_alphaPow a
  · simp
  obtain rfl | ⟨j, rfl⟩ := eq_zero_or_eq_alphaPow b
  · simp
  obtain rfl | ⟨k, rfl⟩ := eq_zero_or_eq_alphaPow c
  · simp
  simp only [gfMulByte_alphaPow, Nat.add_assoc]

theorem gfMulByte_gfAddByte (a b c : Byte) :
    gfMulByte a (gfAddByte b c) = gfAddByte (gfMulByte a b) (gfMulByte a c) := by
  simp only [gfMulByte_eq_polyMul, gfAddByte, polyMul_xor_right]

theorem gfMulByte_one_left (a : Byte) : gfMulByte 1 a = a := by
  rw [gfMulByte_comm, gfMulByte_eq_polyMul, polyMul_one]

/-- The inverse of `αⁱ` is `α^(255 − i)`, since `α²⁵⁵ = 1` (R118). -/
theorem gfMulByte_inverse {a : Byte} (ha : a ≠ 0) : gfMulByte a (expRom ((255 - logRom a) % 255)) = 1 := by
  have hlt := (expRom_logRom a ha).1
  calc gfMulByte a (expRom ((255 - logRom a) % 255))
      = gfMulByte (alphaPow (logRom a)) (alphaPow (255 - logRom a)) := by
        rw [alphaPow_logRom ha, alphaPow_eq_expRom]
    _ = alphaPow (logRom a + (255 - logRom a)) := gfMulByte_alphaPow _ _
    _ = alphaPow 255 := by rw [Nat.add_sub_cancel' hlt.le]
    _ = 1 := alphaPow_eq_expRom 255

/-- Settles O33: on the powers of `α` the product adds exponents, and distributivity is the carry-less product's. -/
theorem gfLaws : Obligations.GfLaws := fun a b c =>
  ⟨gfMulByte_comm a b, gfMulByte_assoc a b c, gfMulByte_gfAddByte a b c, gfMulByte_one_left a,
    BitVec.zero_xor, BitVec.xor_self, gfMulByte_inverse⟩

/-! ## The commands -/

/-- A GF command whose checks pass writes RESULT, completes STATUS and changes nothing else (R115, R211). -/
theorem exec_of_commandBody_gfResult {i : Instr} {s : State} {d : Byte} (h : commandBody i s = .ok (s.gfResult d)) :
    exec i s = .next { s with result := { data := d, valid := true }, status := doneStatus s.status } := by
  rw [exec_eq_runCommand, h]
  rfl

theorem commandBody_gfExp {n : Nat} (hn : n < 255) (s : State) :
    commandBody (.gfExp n) s = .ok (s.gfResult (expRom n)) :=
  bind_eq_ok.mpr ⟨(), operandCheck_ok.mpr (decide_eq_true hn), rfl⟩

theorem commandBody_gfLog {v : Byte} (hv : v ≠ 0) (s : State) :
    commandBody (.gfLog v) s = .ok (s.gfResult (BitVec.ofNat 8 (logRom v))) :=
  bind_eq_ok.mpr ⟨(), operandCheck_ok.mpr (bne_iff_ne.mpr hv), rfl⟩

/-- Settles O32: neither command has a check, and the table product is the carry-less product. -/
theorem gfAddAndGfMulResults : Obligations.GfAddAndGfMulResults := by
  refine fun a b s => ⟨exec_of_commandBody_gfResult rfl, ?_⟩
  rw [← gfMulByte_eq_polyMul]
  exact exec_of_commandBody_gfResult rfl

/-- Settles O34: with the operand in range GF_EXP reads a power of `α`, and GF_LOG the exponent of one. -/
theorem gfExpAndGfLogResults : Obligations.GfExpAndGfLogResults := by
  refine ⟨fun i s hi => ?_, fun v s hv => ⟨BitVec.ofNat 8 (logRom v), ?_⟩⟩
  · rw [alphaPow_eq_expRom, Nat.mod_eq_of_lt hi]
    exact exec_of_commandBody_gfResult (commandBody_gfExp hi s)
  · have hlt := (expRom_logRom v hv).1
    have hnum : (BitVec.ofNat 8 (logRom v)).toNat = logRom v := Nat.mod_eq_of_lt (by omega)
    rw [hnum]
    exact ⟨hlt, alphaPow_logRom hv, exec_of_commandBody_gfResult (commandBody_gfLog hv s)⟩

end Sys2Proof.Machine

/-! PROOF. The Reed–Solomon remainder: the loop of R127, its roots and its linearity, and RS_BLOCK (41_rs_ec.md R125 to
R128). -/

namespace Sys2Proof.Machine

/-! ## One step of the division -/

theorem gfMulByte_xor_right (a b c : Byte) : gfMulByte a (b ^^^ c) = gfMulByte a b ^^^ gfMulByte a c :=
  gfMulByte_gfAddByte a b c

theorem gfMulByte_xor_left (a b c : Byte) : gfMulByte (a ^^^ b) c = gfMulByte a c ^^^ gfMulByte b c := by
  simp only [gfMulByte_comm _ c, gfMulByte_xor_right]

@[simp] theorem rsStep_nil (lead : Byte) (c : List Byte) : rsStep [] lead c = c := by
  unfold rsStep; split <;> rfl

@[simp] theorem rsStep_empty (g : List Nat) (lead : Byte) : rsStep g lead [] = [] := by
  cases g <;> simp [rsStep, xorScaled]

@[simp] theorem rsStep_zero (g : List Nat) (c : List Byte) : rsStep g 0#8 c = c := if_pos rfl

/-- A step adds the multiple of the generator by the leading coefficient, also where that is 0 and R127 skips it. -/
@[simp] theorem rsStep_cons (l : Nat) (g : List Nat) (lead c0 : Byte) (c : List Byte) :
    rsStep (l :: g) lead (c0 :: c) = (c0 ^^^ gfMulByte lead (alphaPow l)) :: rsStep g lead c := by
  by_cases hlead : lead = 0
  · simp [hlead]
  · have hterm : expRom ((l + logRom lead) % 255) = gfMulByte lead (alphaPow l) := by
      rw [← alphaPow_eq_expRom, ← gfMulByte_alphaPow, alphaPow_logRom hlead, gfMulByte_comm]
    simp only [rsStep, if_neg hlead, xorScaled, hterm]

/-! ## The loop on one indexed vector -/

/-- The inner loop of R127 with its first slot at `o`. -/
def xorSlots (g : List Nat) (lead k o : Nat) (c : List Byte) : List Byte :=
  (List.range k).foldl (fun c j => c.set (o + j) (c.getD (o + j) 0 ^^^ expRom ((g.getD j 0 + lead) % 255))) c

theorem rsremInner_eq_xorSlots (g : List Nat) (i lead k : Nat) (c : List Byte) :
    rsremInner g i lead k c = xorSlots g lead k (i + 1) c := rfl

/-- From slot `o + 1` on, the loop leaves the first coefficient alone. -/
theorem xorSlots_succ_cons (g : List Nat) (lead k o : Nat) (c0 : Byte) (c : List Byte) :
    xorSlots g lead k (o + 1) (c0 :: c) = c0 :: xorSlots g lead k o c := by
  unfold xorSlots
  refine (List.foldl_hom (c0 :: ·) fun c j => ?_)
  simp [Nat.add_right_comm o 1 j]

/-- From slot 0 on, the indexed loop is the model's recursion along the generator row. -/
theorem xorSlots_zero (g : List Nat) (lead : Nat) (c : List Byte) :
    xorSlots g lead g.length 0 c = xorScaled lead g c := by
  induction g generalizing c with
  | nil => rfl
  | cons l g ih =>
    cases c with
    | nil => exact List.foldl_fixed' (fun _ => List.set_nil) _
    | cons c0 c =>
      rw [xorScaled, ← ih, ← xorSlots_succ_cons, List.length_cons, xorSlots, List.range_succ_eq_map, List.foldl_cons,
        List.foldl_map]
      simp [xorSlots, Nat.add_comm 1]

/-- The outer loop's step `i` (R127). -/
def rsremStep (g : List Nat) (k : Nat) (c : List Byte) (i : Nat) : List Byte :=
  if c.getD i 0 = 0 then c else rsremInner g i (logRom (c.getD i 0)) k c

theorem rsremLoop_eq_foldl (b : List Byte) (k : Nat) :
    rsremLoop b k =
      ((List.range b.length).foldl (rsremStep (genRow k) k) (b ++ List.replicate k 0)).drop b.length := rfl

theorem rsremStep_nil (g : List Nat) (k i : Nat) : rsremStep g k [] i = [] := if_pos rfl

theorem rsremStep_succ_cons (g : List Nat) (k : Nat) (c0 : Byte) (c : List Byte) (i : Nat) :
    rsremStep g k (c0 :: c) (i + 1) = c0 :: rsremStep g k c i := by
  simp only [rsremStep, rsremInner_eq_xorSlots, List.getD_cons_succ, xorSlots_succ_cons]
  split <;> rfl

theorem rsremStep_zero_cons (g : List Nat) (c0 : Byte) (c : List Byte) :
    rsremStep g g.length (c0 :: c) 0 = c0 :: rsStep g c0 c := by
  simp only [rsremStep, rsremInner_eq_xorSlots, List.getD_cons_zero, xorSlots_succ_cons, xorSlots_zero, rsStep]
  split <;> rfl

/-- Consuming the vector from the front is stepping along its indices. -/
theorem rsDivide_eq_foldl (g : List Nat) (n : Nat) (c : List Byte) :
    rsDivide g n c = (List.range n).foldl (rsremStep g g.length) c := by
  induction n generalizing c with
  | zero => cases c <;> rfl
  | succ n ih =>
    cases c with
    | nil => exact (List.foldl_fixed' (f := rsremStep g g.length) (rsremStep_nil g g.length) _).symm
    | cons c0 c =>
      rw [rsDivide, ih, List.range_succ_eq_map, List.foldl_cons, List.foldl_map, rsremStep_zero_cons]
      exact (List.foldl_hom (c0 :: ·) fun c i => rsremStep_succ_cons g g.length c0 c i).symm

/-- Settles O36: the recursion and the loop step alike, and row `k` of the ROM has `k` entries. -/
theorem rsremIsThePseudocode : Obligations.RsremIsThePseudocode := by
  intro b k h1 h68
  rw [rsRem, rsWorking, rsDivide_eq_foldl, rsremLoop_eq_foldl, genRow_length h1 h68]

/-! ## Linearity -/

/-- A step is linear in the leading coefficient and the rest together. -/
theorem rsStep_zipWith_xor (g : List Nat) (a b : Byte) (c d : List Byte) :
    rsStep g (a ^^^ b) (List.zipWith (· ^^^ ·) c d) = List.zipWith (· ^^^ ·) (rsStep g a c) (rsStep g b d) := by
  induction g generalizing c d with
  | nil => simp
  | cons l g ih =>
    cases c with
    | nil => simp
    | cons c0 c =>
      cases d with
      | nil => simp
      | cons d0 d =>
        simp only [List.zipWith_cons_cons, rsStep_cons, ih, gfMulByte_xor_left]
        ac_rfl

theorem rsDivide_zipWith_xor (g : List Nat) (n : Nat) (c d : List Byte) :
    rsDivide g n (List.zipWith (· ^^^ ·) c d) = List.zipWith (· ^^^ ·) (rsDivide g n c) (rsDivide g n d) := by
  induction n generalizing c d with
  | zero => simp [rsDivide]
  | succ n ih =>
    cases c with
    | nil => simp [rsDivide]
    | cons c0 c =>
      cases d with
      | nil => simp [rsDivide]
      | cons d0 d => simp only [List.zipWith_cons_cons, rsDivide, rsStep_zipWith_xor, ih]

theorem rsRem_zipWith_xor {b c : List Byte} (k : Nat) (h : b.length = c.length) :
    rsRem (List.zipWith (· ^^^ ·) b c) k = List.zipWith (· ^^^ ·) (rsRem b k) (rsRem c k) := by
  have hpad : List.zipWith (· ^^^ ·) b c ++ List.replicate k 0 =
      List.zipWith (· ^^^ ·) (b ++ List.replicate k 0) (c ++ List.replicate k 0) := by
    rw [List.zipWith_append h]; simp
  simp only [rsRem, rsWorking, List.length_zipWith, ← h, Nat.min_self, hpad, rsDivide_zipWith_xor, List.drop_zipWith]

/-- The step of a leading 0 is skipped (R127). -/
theorem rsRem_zero_cons (b : List Byte) (k : Nat) : rsRem (0 :: b) k = rsRem b k := by
  simp [rsRem, rsWorking, rsDivide]

theorem rsRem_replicate_zero (n k : Nat) : rsRem (List.replicate n 0) k = List.replicate k 0 := by
  induction n with
  | zero => simp [rsRem, rsWorking, rsDivide]
  | succ n ih => rw [List.replicate_succ, rsRem_zero_cons, ih]

theorem rsRem_length (b : List Byte) {k : Nat} (h1 : 1 ≤ k) (h68 : k ≤ 68) : (rsRem b k).length = k := by
  rw [rsRem, List.length_drop, rsWorking_length h1 h68, Nat.add_sub_cancel_left]

/-! ## Evaluation at a power of α -/

theorem polyEval_append (c d : List Byte) (i : Nat) :
    polyEval (c ++ d) (alphaPow i) =
      gfMulByte (polyEval c (alphaPow i)) (alphaPow (i * d.length)) ^^^ polyEval d (alphaPow i) := by
  induction d using List.reverseRecOn with
  | nil =>
    rw [List.append_nil, List.length_nil, Nat.mul_zero, gfMulByte_comm, alphaPow, gfMulByte_one_left]
    exact BitVec.xor_zero.symm
  | append_singleton d a ih =>
    have hlast (e : List Byte) : polyEval (e ++ [a]) (alphaPow i) =
        gfMulByte (polyEval e (alphaPow i)) (alphaPow i) ^^^ a := by simp [polyEval, gfMulByte_eq_polyMul]
    rw [← List.append_assoc, hlast, hlast, ih, gfMulByte_xor_left, gfMulByte_assoc, gfMulByte_alphaPow,
      List.length_append, List.length_singleton, Nat.mul_add_one, BitVec.xor_assoc]

/-- A constant is its own value. -/
theorem polyEval_singleton (a x : Byte) : polyEval [a] x = a := by simp [polyEval]

/-- The leading coefficient counts with the power of the point that its place has. -/
theorem polyEval_cons (a : Byte) (c : List Byte) (i : Nat) :
    polyEval (a :: c) (alphaPow i) = gfMulByte a (alphaPow (i * c.length)) ^^^ polyEval c (alphaPow i) := by
  rw [← List.singleton_append, polyEval_append, polyEval_singleton]

theorem polyEval_replicate_zero (n : Nat) (x : Byte) : polyEval (List.replicate n 0) x = 0#8 := by
  induction n with
  | zero => rfl
  | succ n ih => simpa [polyEval, List.replicate_succ] using ih

/-! ## The roots of the generator polynomial -/

theorem generatorPoly_length (k : Nat) : (generatorPoly k).length = k := by
  induction k with
  | zero => rfl
  | succ k ih => simp [generatorPoly, ih]

/-- The value of a sum of one polynomial and a multiple of another of the same length. -/
theorem polyEval_zipWith {u v : List Byte} (h : u.length = v.length) (s : Byte) (i : Nat) :
    polyEval (List.zipWith (fun a b => a ^^^ gfMulByte b s) u v) (alphaPow i) =
      polyEval u (alphaPow i) ^^^ gfMulByte (polyEval v (alphaPow i)) s := by
  induction u generalizing v with
  | nil =>
    obtain rfl : v = [] := List.length_eq_zero_iff.mp h.symm
    simp [polyEval]
  | cons a u ih =>
    obtain ⟨b, v, rfl⟩ := List.exists_cons_of_length_eq_add_one h.symm
    have hlen : u.length = v.length := Nat.succ.inj h
    have hswap : gfMulByte (gfMulByte b s) (alphaPow (i * v.length)) =
        gfMulByte (gfMulByte b (alphaPow (i * v.length))) s := by
      rw [gfMulByte_assoc, gfMulByte_comm s, ← gfMulByte_assoc]
    simp only [List.zipWith_cons_cons, polyEval_cons, ih hlen, List.length_zipWith, hlen, Nat.min_self,
      gfMulByte_xor_left, hswap]
    ac_rfl

/-- One more factor `x − αᵏ` multiplies the value by `x − αᵏ` (R55). -/
theorem polyEval_generatorPoly_succ (k i : Nat) :
    polyEval (1 :: generatorPoly (k + 1)) (alphaPow i) =
      gfMulByte (polyEval (1 :: generatorPoly k) (alphaPow i)) (alphaPow i ^^^ alphaPow k) := by
  have hstep : (1 : Byte) :: generatorPoly (k + 1) =
      List.zipWith (fun a b => a ^^^ gfMulByte b (alphaPow k)) ((1 :: generatorPoly k) ++ [0])
        (0 :: 1 :: generatorPoly k) := by
    simp [generatorPoly, gfMulByte_eq_polyMul]
  have hzero : polyEval (0 :: 1 :: generatorPoly k) (alphaPow i) = polyEval (1 :: generatorPoly k) (alphaPow i) := by
    simp [polyEval]
  rw [hstep, polyEval_zipWith (by simp), hzero, polyEval_append, polyEval_singleton, gfMulByte_xor_right]
  simp

/-- `αⁱ` for `i < k` is a root of `g_k` (R55). -/
theorem polyEval_generatorPoly_eq_zero {i k : Nat} (h : i < k) : polyEval (1 :: generatorPoly k) (alphaPow i) = 0#8 := by
  induction k with
  | zero => exact absurd h (Nat.not_lt_zero i)
  | succ k ih =>
    rw [polyEval_generatorPoly_succ]
    obtain hlt | rfl := Nat.lt_succ_iff_lt_or_eq.mp h
    · rw [ih hlt, gfMulByte_zero_left]
    · rw [BitVec.xor_self, gfMulByte_zero_right]

/-- Where a generator row has a root, a step of the division keeps the value of the vector it divides (R125). -/
theorem polyEval_rsStep {g : List Nat} {c : List Byte} (lead : Byte) (i : Nat) (h : g.length ≤ c.length) :
    polyEval (rsStep g lead c) (alphaPow i) = polyEval c (alphaPow i) ^^^
      gfMulByte lead (gfMulByte (polyEval (g.map alphaPow) (alphaPow i)) (alphaPow (i * (c.length - g.length)))) := by
  induction g generalizing c with
  | nil => simp [polyEval]
  | cons l g ih =>
    obtain _ | ⟨c0, c⟩ := c
    · simp at h
    have hlen : g.length ≤ c.length := Nat.le_of_succ_le_succ h
    have hpow : gfMulByte (alphaPow (i * g.length)) (alphaPow (i * (c.length - g.length))) = alphaPow (i * c.length) := by
      rw [gfMulByte_alphaPow, ← Nat.mul_add, Nat.add_sub_cancel' hlen]
    simp only [rsStep_cons, List.map_cons, polyEval_cons, ih hlen, rsStep_length hlen, List.length_map, List.length_cons,
      Nat.add_sub_add_right, gfMulByte_xor_left, gfMulByte_xor_right, gfMulByte_assoc, hpow]
    ac_rfl

/-- At a root of the generator a step of the division keeps the value of the vector it divides (R125). -/
theorem polyEval_rsStep_of_root {g : List Nat} {c : List Byte} (lead : Byte) {i : Nat} (h : g.length ≤ c.length)
    (hroot : polyEval (1 :: g.map alphaPow) (alphaPow i) = 0#8) :
    polyEval (rsStep g lead c) (alphaPow i) = polyEval (lead :: c) (alphaPow i) := by
  rw [polyEval_cons, List.length_map, gfMulByte_one_left] at hroot
  have hlow : polyEval (g.map alphaPow) (alphaPow i) = alphaPow (i * g.length) := (BitVec.xor_eq_zero_iff.mp hroot).symm
  rw [polyEval_rsStep lead i h, hlow, gfMulByte_alphaPow, ← Nat.mul_add, Nat.add_sub_cancel' h, polyEval_cons,
    BitVec.xor_comm]

/-- So does the whole division: what is left after `n` steps has the value of the vector (R125). -/
theorem polyEval_drop_rsDivide {g : List Nat} {n : Nat} {c : List Byte} {i : Nat} (h : n + g.length ≤ c.length)
    (hroot : polyEval (1 :: g.map alphaPow) (alphaPow i) = 0#8) :
    polyEval ((rsDivide g n c).drop n) (alphaPow i) = polyEval c (alphaPow i) := by
  induction n generalizing c with
  | zero => simp [rsDivide]
  | succ n ih =>
    obtain _ | ⟨c0, c⟩ := c
    · simp at h
    have hlen : n + g.length ≤ c.length := by simpa [Nat.add_right_comm] using h
    have hrest : g.length ≤ c.length := Nat.le_of_add_left_le hlen
    rw [rsDivide, List.drop_succ_cons, ih (by rwa [rsStep_length hrest]), polyEval_rsStep_of_root c0 hrest hroot]

/-- The remainder has the value of the zero-padded block at each root of the generator (R125). -/
theorem polyEval_rsRem (b : List Byte) {k i : Nat} (hi : i < k) (h68 : k ≤ 68) :
    polyEval (rsRem b k) (alphaPow i) = polyEval (b ++ List.replicate k 0) (alphaPow i) := by
  have h1 : 1 ≤ k := Nat.one_le_of_lt hi
  refine polyEval_drop_rsDivide (by simp [genRow_length h1 h68]) ?_
  rw [← generatorPoly_eq_map h1 h68, polyEval_generatorPoly_eq_zero hi]

theorem polyEval_append_rsRem (b : List Byte) {k i : Nat} (hi : i < k) (h68 : k ≤ 68) :
    polyEval (b ++ rsRem b k) (alphaPow i) = 0#8 := by
  rw [polyEval_append, polyEval_rsRem b hi h68, polyEval_append, rsRem_length b (Nat.one_le_of_lt hi) h68,
    List.length_replicate, polyEval_replicate_zero, BitVec.xor_zero, BitVec.xor_self]

/-- Settles O37: the generator's roots, the value of the remainder at each, and its length. -/
theorem blockAndRemainderAreDivisible : Obligations.BlockAndRemainderAreDivisible :=
  fun b _ h1 h68 => ⟨rsRem_length b h1 h68, fun _ hi => polyEval_append_rsRem b hi h68⟩

/-- At 1 a polynomial has the sum of its coefficients. -/
theorem polyEval_one (c : List Byte) : polyEval c 1 = c.foldl (· ^^^ ·) 0 := by
  simp only [polyEval, polyMul_one]

/-- The one codeword for `k = 1` makes the sum of all codewords 0 (R128). -/
theorem rsRem_one (b : List Byte) : rsRem b 1 = [b.foldl (· ^^^ ·) 0] := by
  obtain ⟨r, hr⟩ := List.length_eq_one_iff.mp (rsRem_length b (Nat.le_refl 1) (by decide))
  have hsum := polyEval_append_rsRem b Nat.one_pos (by decide : 1 ≤ 68)
  rw [hr, alphaPow, polyEval_one, List.foldl_append] at hsum
  rw [hr, BitVec.xor_eq_zero_iff.mp hsum]

/-- Settles O38: each step is linear and skips a leading 0, and for `k = 1` the root is 1. -/
theorem remainderIsLinear : Obligations.RemainderIsLinear :=
  ⟨fun _ _ k _ _ h => rsRem_zipWith_xor k h, fun b k _ _ => rsRem_zero_cons b k, fun n k _ _ => rsRem_replicate_zero n k,
    rsRem_one⟩

/-! ## RS_BLOCK -/

/-- A byte after a run of writes within the byte memories. -/
theorem memByte_storeBytes (s : State) {a : Nat} {bs : List Byte} (hlo : 0x1000 ≤ a) (hhi : a + bs.length ≤ 0x4000)
    (b : Nat) : (s.storeBytes a bs).memByte b =
      if a ≤ b ∧ b < a + bs.length then bs.getD (b - a) 0 else s.memByte b := by
  split
  · next hin =>
    obtain ⟨i, rfl⟩ := Nat.exists_eq_add_of_le hin.1
    have hi : i < bs.length := Nat.lt_of_add_lt_add_left hin.2
    rw [memByte_storeBytes_inside hi (isMemAddr_iff.mpr ⟨by omega, by omega⟩), Nat.add_sub_cancel_left,
      List.getD_eq_getElem _ _ hi]
  · exact memByte_storeBytes_outside (by omega)

/-- Settles O35: the checks pass, and the one run of writes is the remainder's. -/
theorem rsBlockResult : Obligations.RsBlockResult := by
  intro k s h1 h68 hsrc hdst
  have hlen := rsRem_length (s.loadBytes (0x1000 + s.arg0.toNat) s.arg1.toNat) h1 h68
  have hbody : commandBody (.rsBlock k) s = .ok _ :=
    rsBlockBody_ok.mpr ⟨⟨Nat.ne_of_gt h1, h68⟩, hsrc, hdst, rfl⟩
  refine ⟨_, by rw [exec_eq_runCommand, hbody, runCommand_ok], rfl, fun a => ?_⟩
  have hbyte := memByte_storeBytes s (a := 0x2000 + s.arg2.toNat)
    (bs := rsRem (s.loadBytes (0x1000 + s.arg0.toNat) s.arg1.toNat) k) (by omega) (by omega) a
  rwa [hlen] at hbyte

end Sys2Proof.Machine

/-! PROOF. Interleaving and EC_PIPELINE (41_rs_ec.md R129 to R135). -/

namespace Sys2Proof.Machine

/-! ## The columns of an interleave -/

/-- Item `r` of list `i` of a concatenation stands after all items of the lists before. -/
theorem getElem?_flatten_take_sum {α : Type} {L : List (List α)} {i r : Nat} (hi : i < L.length) (hr : r < L[i].length) :
    L.flatten[((L.map List.length).take i).sum + r]? = L[i][r]? := by
  rw [← List.getElem?_drop, List.drop_sum_flatten, List.drop_eq_getElem_cons hi, List.flatten_cons,
    List.getElem?_append_left hr]

theorem length_blockColumn (blocks : List (List Byte)) (c : Nat) :
    (blockColumn blocks c).length = countWith (blocks.map List.length) c := by
  rw [blockColumn, List.length_filterMap_eq_countP, countWith, ← List.countP_eq_length_filter, List.countP_map]
  exact List.countP_congr fun b _ => by simp

theorem map_length_interleaveColumns (blocks : List (List Byte)) (n : Nat) :
    ((List.range n).map (blockColumn blocks)).map List.length =
      (List.range n).map (countWith (blocks.map List.length)) := by
  simp [Function.comp_def, length_blockColumn]

/-- Codeword `c` of block `t` stands in column `c` after those of the blocks before `t` (R129). -/
theorem getElem?_blockColumn {blocks : List (List Byte)} {t c : Nat} (ht : t < blocks.length)
    (hc : c < blocks[t].length) :
    (blockColumn blocks c)[countWith ((blocks.map List.length).take t) c]? = blocks[t][c]? := by
  have hsplit : blockColumn blocks c =
      blockColumn (blocks.take t) c ++ blocks[t][c] :: blockColumn (blocks.drop (t + 1)) c := by
    conv_lhs => rw [← List.take_append_drop t blocks, List.drop_eq_getElem_cons ht]
    rw [blockColumn, List.filterMap_append, List.filterMap_cons_some (f := (·[c]?)) (List.getElem?_eq_getElem hc)]
    rfl
  rw [hsplit, ← List.map_take, ← length_blockColumn, List.getElem?_append_right (Nat.le_refl _), Nat.sub_self,
    List.getElem?_cons_zero, List.getElem?_eq_getElem hc]

theorem foldl_max_length_bounds (blocks : List (List Byte)) (n : Nat) :
    n ≤ blocks.foldl (fun n b => max n b.length) n ∧
      ∀ b ∈ blocks, b.length ≤ blocks.foldl (fun n b => max n b.length) n := by
  induction blocks generalizing n with
  | nil => simp
  | cons b blocks ih =>
    obtain ⟨hmax, hrest⟩ := ih (max n b.length)
    obtain ⟨hn, hb⟩ := Nat.max_le.mp hmax
    exact ⟨hn, List.forall_mem_cons.mpr ⟨hb, hrest⟩⟩

theorem length_le_maxLength {blocks : List (List Byte)} {b : List Byte} (h : b ∈ blocks) :
    b.length ≤ maxLength blocks := (foldl_max_length_bounds blocks 0).2 b h

theorem sum_range_indicator (n m : Nat) : ((List.range m).map fun c => if c < n then 1 else 0).sum = min n m := by
  induction m with
  | zero => simp
  | succ m ih => rw [List.sum_range_succ, ih]; split <;> omega

theorem countWith_cons (n : Nat) (lens : List Nat) :
    countWith (n :: lens) = fun c => (if c < n then 1 else 0) + countWith lens c := by
  funext c
  simp only [countWith, List.filter_cons, decide_eq_true_eq]
  split <;> simp [Nat.add_comm 1]

/-- Counted by columns or by blocks, the codewords are the same number (R129). -/
theorem sum_countWith {lens : List Nat} {m : Nat} (h : ∀ n ∈ lens, n ≤ m) :
    ((List.range m).map (countWith lens)).sum = lens.sum := by
  induction lens with
  | nil => exact List.sum_eq_zero (List.forall_mem_map.mpr fun _ _ => rfl)
  | cons n lens ih =>
    obtain ⟨hn, hlens⟩ := List.forall_mem_cons.mp h
    rw [countWith_cons, List.sum_map_add, sum_range_indicator, ih hlens, Nat.min_eq_left hn, List.sum_cons]

/-! ## The places of an interleave -/

theorem length_interleave (blocks : List (List Byte)) : (interleave blocks).length = (blocks.map List.length).sum := by
  rw [interleave, List.flatMap_def, List.length_flatten, map_length_interleaveColumns]
  exact sum_countWith (List.forall_mem_map.mpr fun _ => length_le_maxLength)

theorem getElem?_interleave {blocks : List (List Byte)} {t c : Nat} (ht : t < blocks.length)
    (hc : c < blocks[t].length) :
    (interleave blocks)[interleavePos (blocks.map List.length) t c]? = blocks[t][c]? := by
  have hmax : c < maxLength blocks := Nat.lt_of_lt_of_le hc (length_le_maxLength (List.getElem_mem ht))
  have hplace := getElem?_blockColumn ht hc
  obtain ⟨hlt, -⟩ := List.getElem?_eq_some_iff.mp (hplace.trans (List.getElem?_eq_getElem hc))
  have hcolumn := getElem?_flatten_take_sum (L := (List.range (maxLength blocks)).map (blockColumn blocks)) (i := c)
    (by simpa using hmax) (by simpa using hlt)
  rw [map_length_interleaveColumns, ← List.map_take, List.take_range, Nat.min_eq_left hmax.le, List.getElem_map,
    List.getElem_range, hplace] at hcolumn
  rw [interleave, List.flatMap_def, interleavePos, hcolumn]

/-- Settles O40: the columns before give the first part of the place, the blocks before in the column the second. -/
theorem interleavePlacesEveryCodeword : Obligations.InterleavePlacesEveryCodeword := by
  refine fun blocks => ⟨length_interleave blocks, fun t c hc => ?_⟩
  by_cases ht : t < blocks.length
  · rw [List.getD_eq_getElem _ _ ht] at hc ⊢
    exact getElem?_interleave ht hc
  · rw [List.getD_eq_default _ _ (Nat.le_of_not_lt ht)] at hc
    exact absurd hc (Nat.not_lt_zero c)

/-! ## The stores of EC_PIPELINE -/

theorem writeBytes_append (m : Memory) (a : Nat) (bs cs : List Byte) :
    Memory.writeBytes m a (bs ++ cs) = Memory.writeBytes (Memory.writeBytes m a bs) (a + bs.length) cs := by
  induction bs generalizing m a with
  | nil => rfl
  | cons b bs ih =>
    rw [List.cons_append, Memory.writeBytes, Memory.writeBytes, ih, List.length_cons, Nat.add_right_comm, Nat.add_assoc]

/-- EC blocks that all have the length `ec` are stored one right after another (R132). -/
theorem storeEcBlocks_eq_storeBytes {blocks : List (List Byte)} {ec : Nat} (h : ∀ e ∈ blocks, e.length = ec) (s : State)
    (t : Nat) : s.storeEcBlocks ec t blocks = s.storeBytes (ecbufBase + t * ec) blocks.flatten := by
  induction blocks generalizing s t with
  | nil => rfl
  | cons e blocks ih =>
    obtain ⟨he, hrest⟩ := List.forall_mem_cons.mp h
    rw [State.storeEcBlocks, ih hrest, List.flatten_cons]
    simp only [State.storeBytes, writeBytes_append, he, Nat.add_mul, Nat.one_mul, Nat.add_assoc]
    rfl

/-! ## The blocks of a symbol -/

/-- `SPLIT` gives the data blocks in order (R131). -/
theorem splitBlocks_eq_map (s : State) (b : BlockSpec) :
    s.splitBlocks b = (List.range b.blockCount).map (dataBlock s b) := by
  rw [BlockSpec.blockCount, List.range_add, List.map_append, List.map_map]
  refine congrArg₂ (· ++ ·) (List.map_congr_left fun t ht => ?_) (List.map_congr_left fun u _ => ?_)
  · rw [dataBlock, if_pos (List.mem_range.mp ht)]; rfl
  · simp only [Function.comp_apply, dataBlock, if_neg (Nat.not_lt.mpr (Nat.le_add_right b.n1 u)), Nat.add_sub_cancel_left]
    rfl

theorem splitBlocks_length (s : State) (b : BlockSpec) : (s.splitBlocks b).length = b.blockCount := by
  rw [splitBlocks_eq_map, List.length_map, List.length_range]

theorem splitBlocks_getElem {s : State} {b : BlockSpec} {t : Nat} (h : t < (s.splitBlocks b).length) :
    (s.splitBlocks b)[t] = dataBlock s b t := by
  simp only [splitBlocks_eq_map, List.getElem_map, List.getElem_range]

theorem map_length_splitBlocks (s : State) (b : BlockSpec) : (s.splitBlocks b).map List.length = dataLengths b := by
  simp [State.splitBlocks, dataLengths, Function.comp_def, List.map_const']

/-- The EC blocks of a symbol, in block order (R132). -/
def ecBlocks (s : State) (b : BlockSpec) : List (List Byte) := (s.splitBlocks b).map fun blk => rsRem blk b.ec

theorem ecBlocks_length (s : State) (b : BlockSpec) : (ecBlocks s b).length = b.blockCount := by
  rw [ecBlocks, List.length_map, splitBlocks_length]

theorem ecBlocks_getElem {s : State} {b : BlockSpec} {t : Nat} (h : t < (ecBlocks s b).length) :
    (ecBlocks s b)[t] = rsRem (dataBlock s b t) b.ec := by
  simp only [ecBlocks, List.getElem_map, splitBlocks_getElem]

theorem length_of_mem_ecBlocks {s : State} {b : BlockSpec} (h1 : 1 ≤ b.ec) (h68 : b.ec ≤ 68) {e : List Byte}
    (he : e ∈ ecBlocks s b) : e.length = b.ec := by
  obtain ⟨blk, -, rfl⟩ := List.mem_map.mp he
  exact rsRem_length blk h1 h68

theorem map_length_ecBlocks (s : State) {b : BlockSpec} (h1 : 1 ≤ b.ec) (h68 : b.ec ≤ 68) :
    (ecBlocks s b).map List.length = List.replicate b.blockCount b.ec := by
  rw [List.map_congr_left fun _ => length_of_mem_ecBlocks h1 h68, List.map_const', ecBlocks_length]

theorem sum_dataLengths (b : BlockSpec) : (dataLengths b).sum = b.dataTotal := by
  simp [dataLengths, BlockSpec.dataTotal, Nat.mul_comm]

theorem codewordStream_eq (s : State) (b : BlockSpec) :
    codewordStream (s.splitBlocks b) b.ec = interleave (s.splitBlocks b) ++ interleave (ecBlocks s b) := rfl

theorem length_interleave_splitBlocks (s : State) (b : BlockSpec) :
    (interleave (s.splitBlocks b)).length = b.dataTotal := by
  rw [length_interleave, map_length_splitBlocks, sum_dataLengths]

theorem length_codewordStream (s : State) {b : BlockSpec} (h1 : 1 ≤ b.ec) (h68 : b.ec ≤ 68) :
    (codewordStream (s.splitBlocks b) b.ec).length = b.totalCw := by
  rw [codewordStream_eq, List.length_append, length_interleave_splitBlocks, length_interleave, map_length_ecBlocks s h1 h68,
    List.sum_replicate, smul_eq_mul, Nat.mul_comm]
  rfl

theorem length_flatten_ecBlocks (s : State) {b : BlockSpec} (h1 : 1 ≤ b.ec) (h68 : b.ec ≤ 68) :
    (ecBlocks s b).flatten.length = b.ec * b.blockCount := by
  rw [List.length_flatten, map_length_ecBlocks s h1 h68, List.sum_replicate, smul_eq_mul, Nat.mul_comm]

/-! ## What EC_PIPELINE leaves in the memories -/

@[simp] theorem memByte_complete (s : State) (a : Nat) : s.complete.memByte a = s.memByte a := rfl

/-- EC_PIPELINE makes two runs of writes: the EC blocks one after another, and the stream (R130). -/
theorem memByte_ecPipelineEffect (s : State) {b : BlockSpec} (h1 : 1 ≤ b.ec) (h68 : b.ec ≤ 68) (a : Nat) :
    (s.ecPipelineEffect b).memByte a =
      ((s.storeBytes 0x2000 (ecBlocks s b).flatten).storeBytes 0x3000
        (codewordStream (s.splitBlocks b) b.ec)).memByte a := by
  have hstore := storeEcBlocks_eq_storeBytes (fun _ => length_of_mem_ecBlocks (s := s) h1 h68) s 0
  rw [Nat.zero_mul, Nat.add_zero, ecbufBase] at hstore
  rw [← hstore, ecBlocks, ← streamBase]
  simp only [State.ecPipelineEffect, State.memByte, State.withEngine_mem, State.withEngine_epoch, State.withStreamLen_mem,
    State.withStreamLen_epoch]

section
variable {s : State} {b : BlockSpec} (h1 : 1 ≤ b.ec) (h68 : b.ec ≤ 68)
include h1 h68

theorem memByte_ecPipelineEffect_outside {a : Nat} (hec : ¬(0x2000 ≤ a ∧ a < 0x2000 + b.ec * b.blockCount))
    (hstream : ¬(0x3000 ≤ a ∧ a < 0x3000 + b.totalCw)) : (s.ecPipelineEffect b).memByte a = s.memByte a := by
  rw [← length_flatten_ecBlocks s h1 h68] at hec
  rw [← length_codewordStream s h1 h68] at hstream
  rw [memByte_ecPipelineEffect s h1 h68]
  rw [memByte_storeBytes_outside (by omega), memByte_storeBytes_outside (by omega)]

variable (htotal : b.totalCw ≤ 4096)
include htotal

theorem memByte_ecPipelineEffect_stream {i : Nat} {x : Byte}
    (h : (codewordStream (s.splitBlocks b) b.ec)[i]? = some x) : (s.ecPipelineEffect b).memByte (0x3000 + i) = x := by
  obtain ⟨hi, rfl⟩ := List.getElem?_eq_some_iff.mp h
  have hout := length_codewordStream s h1 h68
  rw [memByte_ecPipelineEffect s h1 h68]
  rw [memByte_storeBytes_inside hi (isMemAddr_iff.mpr (by omega))]

theorem memByte_ecPipelineEffect_ecbuf {i : Nat} {x : Byte} (h : (ecBlocks s b).flatten[i]? = some x) :
    (s.ecPipelineEffect b).memByte (0x2000 + i) = x := by
  obtain ⟨hi, rfl⟩ := List.getElem?_eq_some_iff.mp h
  have hblocks := length_flatten_ecBlocks s h1 h68
  have hfit : b.ec * b.blockCount ≤ b.totalCw := Nat.le_add_left _ _
  rw [memByte_ecPipelineEffect s h1 h68]
  rw [memByte_storeBytes_outside (by omega), memByte_storeBytes_inside hi (isMemAddr_iff.mpr (by omega))]

end

/-! ## The places of the codewords -/

theorem getElem?_eq_some_getD {l : List Byte} {i : Nat} (h : i < l.length) : l[i]? = some (l.getD i 0) := by
  rw [List.getD_eq_getElem _ _ h, List.getElem?_eq_getElem h]

/-- Data codeword `c` of block `t` in the stream (R133). -/
theorem getElem?_codewordStream_data {s : State} {b : BlockSpec} {t c : Nat} (ht : t < b.blockCount)
    (hc : c < (dataBlock s b t).length) :
    (codewordStream (s.splitBlocks b) b.ec)[interleavePos (dataLengths b) t c]? = some ((dataBlock s b t).getD c 0) := by
  have ht' : t < (s.splitBlocks b).length := by rwa [splitBlocks_length]
  have hplace := getElem?_interleave ht' (by rwa [splitBlocks_getElem])
  rw [map_length_splitBlocks, splitBlocks_getElem, getElem?_eq_some_getD hc] at hplace
  rw [codewordStream_eq, List.getElem?_append_left (List.getElem?_eq_some_iff.mp hplace).1, hplace]

section
variable {s : State} {b : BlockSpec} {t j : Nat} (h1 : 1 ≤ b.ec) (h68 : b.ec ≤ 68) (ht : t < b.blockCount)
  (hj : j < b.ec)
include h1 h68 ht hj

/-- EC codeword `j` of block `t` in the stream, after all the data codewords (R133). -/
theorem getElem?_codewordStream_ec :
    (codewordStream (s.splitBlocks b) b.ec)[b.dataTotal + interleavePos (List.replicate b.blockCount b.ec) t j]? =
      some ((rsRem (dataBlock s b t) b.ec).getD j 0) := by
  have ht' : t < (ecBlocks s b).length := by rwa [ecBlocks_length]
  have hj' : j < (rsRem (dataBlock s b t) b.ec).length := by rwa [rsRem_length _ h1 h68]
  rw [codewordStream_eq, ← length_interleave_splitBlocks s b, List.getElem?_append_right (Nat.le_add_right _ _),
    Nat.add_sub_cancel_left, ← map_length_ecBlocks s h1 h68, getElem?_interleave ht' (by rwa [ecBlocks_getElem]),
    ecBlocks_getElem, getElem?_eq_some_getD hj']

/-- EC codeword `j` of block `t` among the EC blocks one after another (R132). -/
theorem getElem?_flatten_ecBlocks :
    (ecBlocks s b).flatten[t * b.ec + j]? = some ((rsRem (dataBlock s b t) b.ec).getD j 0) := by
  have ht' : t < (ecBlocks s b).length := by rwa [ecBlocks_length]
  have hj' : j < (rsRem (dataBlock s b t) b.ec).length := by rwa [rsRem_length _ h1 h68]
  have hplace := getElem?_flatten_take_sum ht' (by rwa [ecBlocks_getElem] : j < _)
  rwa [map_length_ecBlocks s h1 h68, List.take_replicate, Nat.min_eq_left ht.le, List.sum_replicate, smul_eq_mul,
    ecBlocks_getElem, getElem?_eq_some_getD hj'] at hplace

end

/-- EC_PIPELINE's memories hold the codewords at their places (R130 to R133). -/
theorem holdsCodewords_ecPipelineEffect (s : State) {b : BlockSpec} (h1 : 1 ≤ b.ec) (h68 : b.ec ≤ 68)
    (htotal : b.totalCw ≤ 4096) : HoldsCodewords s (s.ecPipelineEffect b).complete b := by
  simp only [HoldsCodewords, memByte_complete]
  refine ⟨fun k j hk hj => ?_, fun k c hk hc => ?_, fun k j hk hj => ?_,
    fun _ => memByte_ecPipelineEffect_outside h1 h68⟩
  · rw [Nat.add_assoc, memByte_ecPipelineEffect_ecbuf h1 h68 htotal (getElem?_flatten_ecBlocks h1 h68 hk hj)]
  · rw [memByte_ecPipelineEffect_stream h1 h68 htotal (getElem?_codewordStream_data hk hc)]
  · rw [Nat.add_assoc, memByte_ecPipelineEffect_stream h1 h68 htotal (getElem?_codewordStream_ec h1 h68 hk hj)]

/-! ## EC_PIPELINE -/

/-- Every symbol fits the memories: `V = 40` has the most codewords (R53, R133). -/
theorem blockSpec_totalCw_le (v : Version) (e : EcLevel) : (blockSpec v e).totalCw ≤ 3706 := by
  have hraw : ∀ row : Fin 40, (Version.mk row).raw / 8 ≤ 3706 := by decide
  rw [(blockSpec_rules v e).1]
  exact hraw v.row

theorem exec_ecPipeline {s : State} {v : Version} (hv : s.cfg.version.toNat = v.num)
    (hlen : s.dataLen.toNat = (blockSpec v s.cfg.level).dataTotal) :
    exec .ecPipeline s = .next (s.ecPipelineEffect (blockSpec v s.cfg.level)).complete := by
  have hversion : s.cfg.legalVersion = some v := versionOf_eq_some.mpr ⟨hv.symm, hv ▸ Nat.succ_ne_zero _⟩
  have hbody : commandBody .ecPipeline s = .ok _ := ecPipelineBody_ok.mpr ⟨v, hversion, hlen, rfl⟩
  rw [exec_eq_runCommand, hbody, runCommand_ok]

/-- EC_PIPELINE's completion touches the byte memories, STREAM_LEN, STATUS and the engine's state only (R135). -/
theorem ecPipelineEffect_complete_frame (s : State) (b : BlockSpec) :
    let t := (s.ecPipelineEffect b).complete
    t = { s with mem := t.mem, engine := t.engine, streamLen := t.streamLen, status := doneStatus s.status } := by
  obtain ⟨m, n, e, -, he⟩ := ecPipelineEffect_eq s b
  rw [he]
  rfl

theorem ecPipelineEffect_streamLen (s : State) {b : BlockSpec} (h1 : 1 ≤ b.ec) (h68 : b.ec ≤ 68)
    (htotal : b.totalCw ≤ 4096) : (s.ecPipelineEffect b).streamLen.toNat = b.totalCw := by
  have hnum : (s.ecPipelineEffect b).streamLen = BitVec.ofNat 13 (codewordStream (s.splitBlocks b) b.ec).length := rfl
  rw [hnum, length_codewordStream s h1 h68, BitVec.toNat_ofNat, Nat.mod_eq_of_lt (by omega)]

/-- Settles O39: the checks pass, and what the two runs of writes hold is read at the place of each codeword. -/
theorem ecPipelineResult : Obligations.EcPipelineResult := by
  intro s v hv b hlen
  obtain ⟨-, h7, h30, -⟩ := blockSpec_rules v s.cfg.level
  have h1 : 1 ≤ b.ec := Nat.le_trans (by decide) h7
  have h68 : b.ec ≤ 68 := Nat.le_trans h30 (by decide)
  have htotal : b.totalCw ≤ 4096 := Nat.le_trans (blockSpec_totalCw_le v s.cfg.level) (by decide)
  have hrun : exec .ecPipeline s = .next (s.ecPipelineEffect b).complete := exec_ecPipeline hv hlen
  clear_value b
  exact ⟨_, hrun, ecPipelineEffect_complete_frame s b, ecPipelineEffect_streamLen s h1 h68 htotal,
    holdsCodewords_ecPipelineEffect s h1 h68 htotal⟩

end Sys2Proof.Machine

/-! PROOF. The matrix: who owns it, and the substrate commands MAT_NEW, MAT_PUT and MAT_GET (42_matrix.md
R140 to R147). -/

namespace Sys2Proof.Machine

/-! ## The host leaves the matrix alone -/

theorem writeCsr_matrix (s : State) (off : Nat) (w : Word) : (s.writeCsr off w).matrix = s.matrix := by
  rcases writeCsr_cases s off w with hc | hc | hc | hc | ⟨v, hc⟩ | ⟨v, hc⟩ | ⟨v, hc⟩ | ⟨v, hc⟩ | ⟨v, hc⟩ <;> rw [hc]
  all_goals rfl

theorem hostWrite_matrix (s : State) (a n : Nat) (w : Word) : (s.hostWrite a n w).matrix = s.matrix := by
  rcases hostWrite_cases s a n w with hc | ⟨-, hc⟩ | ⟨-, hc⟩ | ⟨-, hc | hc⟩ <;> rw [hc]
  · exact writeCsr_matrix s a w
  all_goals rfl

/-- No transaction writes the matrix: its windows are read-only to the host (R79, R147). -/
theorem transact_matrix (s : State) (r : Request) : (s.transact r).matrix = s.matrix := by
  rcases transact_cases s r with ⟨p, hc⟩ | ⟨n, p, -, -, hc⟩ <;> rw [hc, State.respond_matrix]
  exact hostWrite_matrix s r.addr.toNat n r.wdata

/-- A command that changes the matrix is one that may write it (R147). -/
theorem writesMatrix_of_exec {i : Instr} {s t : State} (h : exec i s = .next t) (hne : t.matrix ≠ s.matrix) :
    writesMatrix i = true := by
  obtain ⟨-, hmatrix, -⟩ := outputsHaveTheirOwnWriters i s t h
  exact Bool.of_not_eq_false fun hi => hne (hmatrix hi)

/-- Settles O13: of the things a step can do, only a command of R147 and the reset give another matrix. -/
theorem matrixIsOwnedByTheEngine : Obligations.MatrixIsOwnedByTheEngine := by
  intro s t h hne
  obtain ⟨ts, hc⟩ := step_next_cases h
  rcases hc with ⟨r, -, rfl⟩ | ⟨hs, rfl⟩ | ⟨hb, hn, i, hi, he⟩ | ⟨-, -, rfl⟩ | ⟨-, -, rfl⟩
  · exact absurd (transact_matrix _ r) hne
  · exact .inr ⟨rfl, ts, hs⟩
  · exact .inl ⟨i, hi, writesMatrix_of_exec he hne, hb, hn⟩
  · exact absurd rfl hne
  · exact absurd rfl hne

/-! ## The substrate commands -/

/-- A command whose checks pass ends with its effects made and STATUS completed (R211). -/
theorem exec_of_commandBody_ok {i : Instr} {s t : State} (h : commandBody i s = .ok t) : exec i s = .next t.complete := by
  rw [exec_eq_runCommand, h, runCommand_ok]

/-- With a version in `[1, 40]`, MAT_NEW makes a fresh matrix of that version (R144). -/
theorem commandBody_matNew {s : State} {v : Version} (hv : s.cfg.version.toNat = v.num) :
    commandBody .matNew s = .ok (s.matNewEffect v) :=
  matNewBody_ok.mpr ⟨v, versionOf_eq_some.mpr ⟨hv.symm, hv ▸ Nat.succ_ne_zero _⟩, rfl⟩

theorem commandBody_matPut {s : State} {q : QrMatrix} (hq : s.matrix = some q) (x y : Nat) (v f : Bool) :
    commandBody (.matPut x y v f) s = .ok (s.withMatrix (some (q.put x y v f))) :=
  bind_eq_ok.mpr ⟨q, matrixOperand_ok.mpr hq, rfl⟩

theorem commandBody_matGet {s : State} {q : QrMatrix} (hq : s.matrix = some q) (x y : Nat) :
    commandBody (.matGet x y) s = .ok (s.withResult (moduleResult (q.get x y))) :=
  bind_eq_ok.mpr ⟨q, matrixOperand_ok.mpr hq, rfl⟩

/-- Settles O41: the version check passes, and a fresh matrix is clear at every plane bit. -/
theorem matNewResult : Obligations.MatNewResult := fun _ v hv =>
  ⟨QrMatrix.new v, exec_of_commandBody_ok (commandBody_matNew hv), rfl, planeBit_new v⟩

/-- Coordinates that a command names are in bounds when both are below `S`; they are never negative (R143). -/
theorem inb_natCast (q : QrMatrix) (x y : Nat) : q.inb x y = true ↔ x < q.size ∧ y < q.size := by
  rw [inb_iff]; omega

theorem get_natCast_of_out {q : QrMatrix} {x y : Nat} (h : ¬(x < q.size ∧ y < q.size)) : q.get x y = none := by
  rw [QrMatrix.get, if_neg ((inb_natCast q x y).not.mpr h)]

/-- Settles O42: the command is one `put`, and a `get` after a `put` sees the module put in bounds only. -/
theorem matPutResult : Obligations.MatPutResult := by
  intro x y v f s q hq
  refine ⟨q.put x y v f, exec_of_commandBody_ok (commandBody_matPut hq x y v f), sameTail_put q x y v f, ?_⟩
  intro x' y'
  simp only [get_put, inb_natCast]

/-- RESULT holds a module's value in bit 0 and its functional flag in bit 1 (R146). -/
theorem moduleResult_some_toNat (m : QrModule) :
    (moduleResult (some m)).data.toNat = m.value.toNat + 2 * m.functional.toNat := by
  simp only [moduleResult, toNat_append_eq_add, BitVec.toNat_ofBool, BitVec.toNat_ofNat]
  omega

/-- Settles O43: RESULT shows what `get` finds at the coordinates, which is a module in bounds and none outside. -/
theorem matGetResult : Obligations.MatGetResult := by
  intro x y s q hq
  refine ⟨moduleResult (q.get x y), exec_of_commandBody_ok (commandBody_matGet hq x y), fun hx hy => ?_, fun hout => ?_⟩
  · rw [get_natCast hx hy]
    exact ⟨rfl, moduleResult_some_toNat _⟩
  · rw [get_natCast_of_out hout]
    exact ⟨rfl, rfl⟩

end Sys2Proof.Machine

/-! PROOF. The functional-pattern painter: each command paints the modules its rule names and no other, and PAINT_FUNCTIONAL
is its seven steps (43_painter.md R150 to R159). -/

namespace Sys2Proof.Machine

/-! ## Painted matrices -/

/-- `q'` is `q` with the modules in bounds for which `paint` gives a value painted, each functional (R150): what
`PaintsExactly` says of a command, said of two matrices. -/
def Painted (q q' : QrMatrix) (paint : Int → Int → Option Bool) : Prop :=
  SameTail q q' ∧ ∀ x y, q.inb x y = true →
    (∀ v, paint x y = some v → q'.get x y = some { value := v, functional := true }) ∧
    (paint x y = none → q'.get x y = q.get x y)

theorem SameTail.inb {q q' : QrMatrix} (h : SameTail q q') (x y : Int) : q'.inb x y = q.inb x y := by
  simp only [QrMatrix.inb, h.size]

theorem get_of_not_inb {q : QrMatrix} {x y : Int} (h : ¬q.inb x y = true) : q.get x y = none := if_neg h

section
variable {q q' q'' : QrMatrix} {paint paint' : Int → Int → Option Bool}

theorem Painted.refl (q : QrMatrix) : Painted q q (fun _ _ => none) :=
  ⟨SameTail.refl q, fun _ _ _ => ⟨fun _ h => (Option.some_ne_none _ h.symm).elim, fun _ => rfl⟩⟩

/-- Two descriptions that agree in bounds describe one painting. -/
theorem Painted.congr (h : Painted q q' paint) (he : ∀ x y, q.inb x y = true → paint' x y = paint x y) :
    Painted q q' paint' :=
  ⟨h.1, fun x y hin => he x y hin ▸ h.2 x y hin⟩

/-- Of two paintings one after the other, the later stands where both paint. -/
theorem Painted.trans (h : Painted q q' paint) (h' : Painted q' q'' paint') :
    Painted q q'' (fun x y => (paint' x y).or (paint x y)) := by
  refine ⟨h.1.trans h'.1, fun x y hin => ?_⟩
  obtain ⟨hsome, hnone⟩ := h.2 x y hin
  obtain ⟨hsome', hnone'⟩ := h'.2 x y ((h.1.inb x y).trans hin)
  cases hp : paint' x y with
  | some v => exact ⟨fun w hw => hsome' w (by simpa [hp] using hw), fun hw => by simp [hp] at hw⟩
  | none =>
    rw [hnone' hp]
    exact ⟨fun w hw => hsome w (by simpa [hp] using hw), fun hw => hnone (by simpa [hp] using hw)⟩

/-- A module is functional after a painting where it was painted or was functional before. -/
theorem Painted.isFunc (h : Painted q q' paint) {x y : Int} (hin : q.inb x y = true) :
    q'.isFunc x y = ((paint x y).isSome || q.isFunc x y) := by
  obtain ⟨hsome, hnone⟩ := h.2 x y hin
  cases hp : paint x y with
  | some v => rw [QrMatrix.isFunc, hsome v hp]; rfl
  | none => rw [QrMatrix.isFunc, hnone hp]; rfl

/-- A list of strokes paints what it lists, when it lists one value at most for each module. -/
theorem painted_paint {strokes : List Stroke}
    (h : ∀ x y v, q.inb x y = true → (paint x y = some v ↔ ⟨x, y, v⟩ ∈ strokes)) : Painted q (q.paint strokes) paint := by
  refine ⟨sameTail_paint q strokes, fun x y hin => ⟨fun v hv => ?_, fun hn => ?_⟩⟩
  · refine get_paint_of_mem hin ⟨_, (h x y v hin).mp hv, rfl, rfl⟩ ?_
    rintro ⟨x', y', v'⟩ hs ⟨rfl, rfl⟩
    exact Option.some.inj (((h x' y' v' hin).mpr hs).symm.trans hv)
  · refine get_paint_of_not_mem ?_
    rintro ⟨x', y', v'⟩ hs ⟨rfl, rfl⟩
    exact Option.some_ne_none v' (((h x' y' v' hin).mpr hs).symm.trans hn)

end

/-- What `s` becomes when painter commands have left the matrix `q` and the engine state `e` (R150). -/
def State.painted (s : State) (q : QrMatrix) (e : Engine) : State := ((s.withMatrix (some q)).withEngine e).complete

/-- Command `i` is a painter command with the function `f` on matrices (R150). -/
def IsPainter (i : Instr) (f : QrMatrix → QrMatrix) : Prop := ∃ passes, ∀ s, commandBody i s = painterBody s f passes

/-- A painter command on the matrix held leaves what its function paints. -/
theorem IsPainter.exec {i : Instr} {f : QrMatrix → QrMatrix} (hi : IsPainter i f) {s : State} {q : QrMatrix}
    (hq : s.matrix = some q) : ∃ e, exec i s = .next (s.painted (f q) e) := by
  obtain ⟨passes, hbody⟩ := hi
  exact ⟨_, exec_of_commandBody_ok ((hbody s).trans (painterBody_ok.mpr ⟨q, hq, rfl⟩))⟩

/-- A painter command paints exactly what its function on matrices paints. -/
theorem IsPainter.paintsExactly {i : Instr} {f : QrMatrix → QrMatrix} (hi : IsPainter i f) {s : State} {q : QrMatrix}
    (hq : s.matrix = some q) {paint : Int → Int → Option Bool} (h : Painted q (f q) paint) :
    PaintsExactly i s q paint := by
  obtain ⟨e, he⟩ := hi.exec hq
  refine ⟨f q, e, he, h.1, fun x y => ?_⟩
  split
  · next hin =>
    obtain ⟨hsome, hnone⟩ := h.2 x y hin
    split
    · next v hv => exact hsome v hv
    · next hn => exact hnone hn
  · next hout => exact get_of_not_inb (by rwa [h.1.inb])

theorem isPainter_paintFinders : IsPainter .paintFinders paintFinders := ⟨_, fun _ => rfl⟩
theorem isPainter_paintSeparators : IsPainter .paintSeparators paintSeparators := ⟨_, fun _ => rfl⟩
theorem isPainter_paintAlignment : IsPainter .paintAlignment paintAlignment := ⟨_, fun _ => rfl⟩
theorem isPainter_paintTiming : IsPainter .paintTiming paintTiming := ⟨_, fun _ => rfl⟩
theorem isPainter_paintDark : IsPainter .paintDark paintDark := ⟨_, fun _ => rfl⟩
theorem isPainter_reserveFormat : IsPainter .reserveFormat reserveFormat := ⟨_, fun _ => rfl⟩
theorem isPainter_reserveVersion : IsPainter .reserveVersion reserveVersion := ⟨_, fun _ => rfl⟩
theorem isPainter_paintFunctional : IsPainter .paintFunctional paintFunctional := ⟨_, fun _ => rfl⟩

/-! ## Square patterns: finders and alignment patterns -/

theorem size_ge (q : QrMatrix) : (21 : Int) ≤ q.size := by
  exact_mod_cast (Version.size_bounds q.version).1

/-- The modules at distance `n` at most from a centre are a square around it. -/
theorem ringOf_le {cx cy x y : Int} {n : Nat} :
    ringOf cx cy x y ≤ n ↔ cx - n ≤ x ∧ x ≤ cx + n ∧ cy - n ≤ y ∧ y ≤ cy + n := by
  unfold ringOf; omega

/-- Ring `n` is the border of that square: two columns and two rows. -/
theorem ringOf_eq {cx cy x y : Int} {n : Nat} :
    ringOf cx cy x y = n ↔ ((x = cx - n ∨ x = cx + n) ∧ cy - n ≤ y ∧ y ≤ cy + n) ∨
      ((y = cy - n ∨ y = cy + n) ∧ cx - n ≤ x ∧ x ≤ cx + n) := by
  unfold ringOf; omega

theorem ringOf_add (cx cy dx dy x y : Int) : ringOf (dx + cx) (dy + cy) (dx + x) (dy + y) = ringOf cx cy x y := by
  simp only [ringOf, Int.add_sub_add_left]

/-- The strokes of a square bitmap with its corner at `(x0, y0)`, row by row. -/
def squareStrokes (side : Nat) (bit : Nat → Nat → Bool) (x0 y0 : Int) : List Stroke :=
  (List.range side).flatMap (fun (r : Nat) => (List.range side).map (fun (c : Nat) => ⟨x0 + c, y0 + r, bit r c⟩))

theorem finderStrokes_eq (cx cy : Int) : finderStrokes cx cy = squareStrokes 7 finderBit cx cy := rfl

theorem alignStrokes_eq (cx cy : Int) : alignStrokes cx cy = squareStrokes 5 alignBit (cx - 2) (cy - 2) := rfl

theorem mem_squareStrokes {side : Nat} {bit : Nat → Nat → Bool} {x0 y0 x y : Int} {v : Bool} :
    ⟨x, y, v⟩ ∈ squareStrokes side bit x0 y0 ↔
      ∃ r c : Nat, r < side ∧ c < side ∧ x0 + c = x ∧ y0 + r = y ∧ bit r c = v := by
  simp only [squareStrokes, List.mem_flatMap, List.mem_map, List.mem_range, Stroke.mk.injEq]
  exact ⟨fun ⟨r, hr, c, hc, h⟩ => ⟨r, c, hr, hc, h⟩, fun ⟨r, c, hr, hc, h⟩ => ⟨r, hr, c, hc, h⟩⟩

/-- A square bitmap that is light in one ring around its centre paints its rings so (R58). -/
theorem mem_squareStrokes_ring {n light : Nat} {bit : Nat → Nat → Bool} {x0 y0 x y : Int} {v : Bool}
    (hbit : ∀ r, r < 2 * n + 1 → ∀ c, c < 2 * n + 1 → bit r c = decide (ringOf n n c r ≠ light)) :
    ⟨x, y, v⟩ ∈ squareStrokes (2 * n + 1) bit x0 y0 ↔
      ringOf (x0 + n) (y0 + n) x y ≤ n ∧ decide (ringOf (x0 + n) (y0 + n) x y ≠ light) = v := by
  rw [mem_squareStrokes, ringOf_le]
  constructor
  · rintro ⟨r, c, hr, hc, rfl, rfl, rfl⟩
    rw [hbit r hr c hc, ringOf_add]
    exact ⟨by omega, rfl⟩
  · rintro ⟨hxy, rfl⟩
    obtain ⟨c, rfl⟩ : ∃ c : Nat, x = x0 + c := ⟨(x - x0).toNat, by omega⟩
    obtain ⟨r, rfl⟩ : ∃ r : Nat, y = y0 + r := ⟨(y - y0).toNat, by omega⟩
    refine ⟨r, c, by omega, by omega, rfl, rfl, ?_⟩
    rw [hbit r (by omega) c (by omega), ringOf_add]

/-! ## Finders and separators -/

theorem mem_finderStrokes {cx cy x y : Int} {v : Bool} :
    ⟨x, y, v⟩ ∈ finderStrokes cx cy ↔ finderAt (cx + 3) (cy + 3) x y = some v := by
  rw [finderStrokes_eq, mem_squareStrokes_ring (n := 3) finderBit_eq, finderAt, Option.ite_none_right_eq_some,
    Option.some.injEq]
  rfl

theorem finderAt_isSome {cx cy x y : Int} : (finderAt cx cy x y).isSome = true ↔ ringOf cx cy x y ≤ 3 := by
  simp [finderAt]

/-- Of two values that are not both there, either is the one that `or` finds. -/
theorem or_eq_some_of_disjoint {a b : Option Bool} {v : Bool} (h : a = none ∨ b = none) :
    a.or b = some v ↔ a = some v ∨ b = some v := by
  rcases h with rfl | rfl <;> simp

theorem finderModule_eq_some {S x y : Int} (hS : 21 ≤ S) {v : Bool} :
    finderModule S x y = some v ↔ ⟨x, y, v⟩ ∈ findersStrokes S := by
  have hright : finderAt (S - 4) 3 x y = none ∨ finderAt 3 (S - 4) x y = none := by
    simp only [← Option.not_isSome_iff_eq_none, finderAt_isSome, ringOf]; omega
  have hleft : finderAt 3 3 x y = none ∨ (finderAt (S - 4) 3 x y).or (finderAt 3 (S - 4) x y) = none := by
    simp only [← Option.not_isSome_iff_eq_none, Option.isSome_or, Bool.or_eq_true, finderAt_isSome, ringOf]; omega
  have hcorner : S - 7 + 3 = S - 4 := by omega
  rw [finderModule, or_eq_some_of_disjoint hleft, or_eq_some_of_disjoint hright]
  simp only [findersStrokes, List.mem_append, mem_finderStrokes, zero_add, hcorner, or_assoc]

theorem painted_paintFinders (q : QrMatrix) : Painted q (paintFinders q) (finderModule q.size) :=
  painted_paint fun _ _ _ _ => finderModule_eq_some (size_ge q)

/-- Settles O44: the three bitmaps are the three finders' rings. -/
theorem paintFindersResult : Obligations.PaintFindersResult :=
  fun _ q hq => isPainter_paintFinders.paintsExactly hq (painted_paintFinders q)

theorem mem_separatorStrokes {S x y : Int} {v : Bool} :
    ⟨x, y, v⟩ ∈ separatorStrokes S ↔ (∃ i : Nat, i < 8 ∧ ((x = i ∧ y = 7) ∨ (x = 7 ∧ y = i) ∨ (x = S - 8 + i ∧ y = 7) ∨
      (x = S - 8 ∧ y = i) ∨ (x = i ∧ y = S - 8) ∨ (x = 7 ∧ y = S - 8 + i))) ∧ v = false := by
  simp only [separatorStrokes, separatorPass, List.mem_flatMap, List.mem_range, List.mem_cons, List.not_mem_nil, or_false,
    Stroke.mk.injEq, ← and_assoc, ← or_and_right, exists_and_right]

/-- In bounds, ring 4 around the three finders is what the six runs of the loop paint (R152). -/
theorem separatorModule_eq_some {S x y : Int} (hS : 21 ≤ S) (hx : 0 ≤ x ∧ x < S) (hy : 0 ≤ y ∧ y < S) {v : Bool} :
    separatorModule S x y = some v ↔ ⟨x, y, v⟩ ∈ separatorStrokes S := by
  have hring (cx cy : Int) := ringOf_eq (cx := cx) (cy := cy) (x := x) (y := y) (n := 4)
  push_cast at hring
  rw [mem_separatorStrokes, separatorModule, Option.ite_none_right_eq_some, Option.some.injEq, eq_comm (a := false),
    hring, hring, hring]
  refine and_congr_left fun _ => ⟨?_, ?_⟩
  · rintro ((⟨h, h'⟩ | ⟨h, h'⟩) | (⟨h, h'⟩ | ⟨h, h'⟩) | (⟨h, h'⟩ | ⟨h, h'⟩))
    · exact ⟨y.toNat, by omega, .inr (.inl (by omega))⟩
    · exact ⟨x.toNat, by omega, .inl (by omega)⟩
    · exact ⟨y.toNat, by omega, .inr (.inr (.inr (.inl (by omega))))⟩
    · exact ⟨(x - (S - 8)).toNat, by omega, .inr (.inr (.inl (by omega)))⟩
    · exact ⟨(y - (S - 8)).toNat, by omega, .inr (.inr (.inr (.inr (.inr (by omega)))))⟩
    · exact ⟨x.toNat, by omega, .inr (.inr (.inr (.inr (.inl (by omega)))))⟩
  · rintro ⟨i, hi, h | h | h | h | h | h⟩ <;> omega

theorem painted_paintSeparators (q : QrMatrix) : Painted q (paintSeparators q) (separatorModule q.size) :=
  painted_paint fun x y _ hin =>
    separatorModule_eq_some (size_ge q) ((inb_iff q x y).mp hin).1 ((inb_iff q x y).mp hin).2

/-- Settles O45: the six runs of eight modules are ring 4 as far as it is in bounds. -/
theorem paintSeparatorsResult : Obligations.PaintSeparatorsResult :=
  fun _ q hq => isPainter_paintSeparators.paintsExactly hq (painted_paintSeparators q)

/-! ## The dark module, format cells and version cells -/

theorem paintDark_eq (q : QrMatrix) : paintDark q = q.paint [⟨8, 4 * (q.version.num : Int) + 9, true⟩] := rfl

theorem painted_paintDark (q : QrMatrix) : Painted q (paintDark q) (darkModule q.version.num) := by
  rw [paintDark_eq]
  refine painted_paint fun x y v _ => ?_
  rw [darkModule, Option.ite_none_right_eq_some, List.mem_singleton, Stroke.mk.injEq, Option.some.injEq, and_assoc,
    eq_comm (a := true)]

/-- Settles O48: the command is one stroke. -/
theorem paintDarkResult : Obligations.PaintDarkResult :=
  fun _ q hq => isPainter_paintDark.paintsExactly hq (painted_paintDark q)

theorem formatCells1_getElem? {x y : Int} {k : Nat} : formatCells1[k]? = some (x, y) ↔
    (k ≤ 5 ∧ x = k ∧ y = 8) ∨ (k = 6 ∧ x = 7 ∧ y = 8) ∨ (k = 7 ∧ x = 8 ∧ y = 8) ∨ (k = 8 ∧ x = 8 ∧ y = 7) ∨
      (9 ≤ k ∧ k ≤ 14 ∧ x = 8 ∧ y = 14 - (k : Int)) := by
  by_cases hk : k < 15
  · interval_cases k <;> simp [formatCells1] <;> omega
  · rw [List.getElem?_eq_none (not_lt.mp hk)]
    exact iff_of_false nofun (by omega)

theorem formatCells2_getElem? {S x y : Int} {k : Nat} : (formatCells2 S)[k]? = some (x, y) ↔
    (k ≤ 6 ∧ x = 8 ∧ y = S - 1 - k) ∨ (7 ≤ k ∧ k ≤ 14 ∧ x = S - 8 + (k - 7) ∧ y = 8) := by
  by_cases hk : k < 15
  · interval_cases k <;> simp [formatCells2] <;> omega
  · rw [List.getElem?_eq_none (l := formatCells2 S) (not_lt.mp hk)]
    exact iff_of_false nofun (by omega)

/-- The index of a format cell is its place in one of the two lists of cells (R156). -/
theorem formatCellIndex_eq_some {S x y : Int} (hS : 21 ≤ S) {k : Nat} :
    formatCellIndex S x y = some k ↔ formatCells1[k]? = some (x, y) ∨ (formatCells2 S)[k]? = some (x, y) := by
  rw [formatCells1_getElem?, formatCells2_getElem?, formatCellIndex]
  split_ifs
  case neg => exact iff_of_false nofun (by rintro ((h | h | h | h | h) | h | h) <;> omega)
  case pos => rw [Option.some.injEq]; exact ⟨fun hk => .inl (.inl (by omega)), by omega⟩
  all_goals rw [Option.some.injEq]; omega

theorem exists_formatCellIndex {S x y : Int} (hS : 21 ≤ S) :
    (∃ k, formatCellIndex S x y = some k) ↔ (x, y) ∈ formatCells1 ++ formatCells2 S := by
  simp only [formatCellIndex_eq_some hS, exists_or, List.mem_append]
  simp only [List.mem_iff_getElem?]

theorem painted_reserveFormat (q : QrMatrix) :
    Painted q (reserveFormat q) (fun x y => (formatCellIndex q.size x y).map (fun _ => false)) := by
  refine painted_paint fun x y v _ => ?_
  rw [Option.map_eq_some_iff, exists_and_right, exists_formatCellIndex (size_ge q), List.mem_map]
  constructor
  · rintro ⟨hc, rfl⟩
    exact ⟨_, hc, rfl⟩
  · rintro ⟨c, hc, hs⟩
    cases hs
    exact ⟨hc, rfl⟩

/-- Settles O49: a cell has an index exactly when one of the two lists holds it. -/
theorem reserveFormatResult : Obligations.ReserveFormatResult :=
  fun _ q hq => isPainter_reserveFormat.paintsExactly hq (painted_reserveFormat q)

/-- The index of a version cell is its place in one of the two blocks (R158). -/
theorem versionCellIndex_eq_some {S x y : Int} (hS : 17 ≤ S) {i : Nat} :
    versionCellIndex S x y = some i ↔ i < 18 ∧ (versionCellBl S i = (x, y) ∨ versionCellTr S i = (x, y)) := by
  simp only [versionCellIndex, versionCellBl, versionCellTr, Prod.mk.injEq]
  split
  · rw [Option.some.injEq]; omega
  · split
    · rw [Option.some.injEq]; omega
    · exact iff_of_false nofun (by omega)

/-- The strokes of both version blocks write bit `i` of the word to the cells with index `i` (R158, R193). -/
theorem map_versionCellIndex_eq_some {S x y : Int} (hS : 17 ≤ S) {bits : BitVec 18} {v : Bool} :
    (versionCellIndex S x y).map (fun i => bits.getLsbD i) = some v ↔ ⟨x, y, v⟩ ∈ versionStrokes S bits := by
  simp only [Option.map_eq_some_iff, versionCellIndex_eq_some hS, versionStrokes, List.mem_flatMap, List.mem_range,
    List.mem_cons, List.not_mem_nil, or_false, Stroke.mk.injEq, Prod.ext_iff]
  refine exists_congr fun i => ?_
  rw [eq_comm (a := x), eq_comm (a := x), eq_comm (a := y), eq_comm (a := y), eq_comm (a := v)]
  tauto

theorem painted_versionStrokes (q : QrMatrix) (bits : BitVec 18) :
    Painted q (q.paint (versionStrokes q.size bits))
      (fun x y => (versionCellIndex q.size x y).map (fun i => bits.getLsbD i)) :=
  painted_paint fun _ _ _ _ => map_versionCellIndex_eq_some (by have := size_ge q; omega)

theorem painted_reserveVersion (q : QrMatrix) :
    Painted q (reserveVersion q)
      (fun x y => if 7 ≤ q.version.num then (versionCellIndex q.size x y).map (fun _ => false) else none) := by
  unfold reserveVersion
  split
  · exact (painted_versionStrokes q 0).congr fun _ _ _ => by simp only [BitVec.ofNat_eq_ofNat, BitVec.getLsbD_zero]
  · exact Painted.refl q

/-- Settles O50: the strokes are those of the version word 0. -/
theorem reserveVersionResult : Obligations.ReserveVersionResult :=
  fun _ q hq => isPainter_reserveVersion.paintsExactly hq (painted_reserveVersion q)

/-! ## Guarded patches: alignment patterns and timing -/

section
variable {α : Type} {x y : α → Int} {strokes : α → List Stroke}

/-- A step of a painter that leaves a patch out where the module that guards it is functional (R153, R154). -/
def QrMatrix.paintPatch (x y : α → Int) (strokes : α → List Stroke) (q : QrMatrix) (a : α) : QrMatrix :=
  if q.isFunc (x a) (y a) then q else q.paint (strokes a)

theorem isFunc_paint_of_not_mem {q : QrMatrix} {ss : List Stroke} {x y : Int} (h : ∀ s ∈ ss, ¬(s.x = x ∧ s.y = y)) :
    (q.paint ss).isFunc x y = q.isFunc x y := by
  simp only [QrMatrix.isFunc, get_paint_of_not_mem h]

theorem isFunc_paintPatch_of_not_mem {q : QrMatrix} {a : α} {x' y' : Int}
    (h : ∀ s ∈ strokes a, ¬(s.x = x' ∧ s.y = y')) : (q.paintPatch x y strokes a).isFunc x' y' = q.isFunc x' y' := by
  unfold QrMatrix.paintPatch
  split
  · rfl
  · exact isFunc_paint_of_not_mem h

/-- Where no patch hits the guard of a later one, the guards may as well be read at the start. -/
theorem foldl_paintPatch (q : QrMatrix) {l : List α}
    (h : l.Pairwise fun a b => ∀ s ∈ strokes a, ¬(s.x = x b ∧ s.y = y b)) :
    l.foldl (QrMatrix.paintPatch x y strokes) q =
      q.paint ((l.filter fun a => !q.isFunc (x a) (y a)).flatMap strokes) := by
  induction h generalizing q with
  | nil => rfl
  | @cons a l hal _ ih =>
    have hguards : (l.filter fun b => !(q.paintPatch x y strokes a).isFunc (x b) (y b)) =
        l.filter fun b => !q.isFunc (x b) (y b) :=
      List.filter_congr fun b hb => by rw [isFunc_paintPatch_of_not_mem (hal b hb)]
    rw [List.foldl_cons, ih, hguards, QrMatrix.paintPatch]
    cases hf : q.isFunc (x a) (y a) <;> simp [hf, paint_append]

end

/-! ## Alignment patterns -/

theorem paintAlignment_eq (q : QrMatrix) : paintAlignment q = (alignCentersProduct q.version).foldl
    (QrMatrix.paintPatch (fun c => c.1) (fun c => c.2) (fun c => alignStrokes c.1 c.2)) q := rfl

theorem mem_alignStrokes {cx cy x y : Int} {v : Bool} :
    ⟨x, y, v⟩ ∈ alignStrokes cx cy ↔ ringOf cx cy x y ≤ 2 ∧ decide (ringOf cx cy x y ≠ 1) = v := by
  rw [alignStrokes_eq, mem_squareStrokes_ring (n := 2) alignBit_eq, Nat.cast_ofNat, Int.sub_add_cancel, Int.sub_add_cancel]

/-- Alignment centres stand 12 apart at least (R54). -/
theorem alignCenters_pairwise (v : Version) : (alignCenters v).Pairwise fun a b => a + 12 ≤ b := by
  obtain ⟨row⟩ := v
  revert row; decide +kernel

theorem mem_alignCentersProduct {v : Version} {c : Nat × Nat} :
    c ∈ alignCentersProduct v ↔ c.1 ∈ alignCenters v ∧ c.2 ∈ alignCenters v := List.mem_product

theorem eq_of_alignCenters_near {v : Version} {a b : Nat} (ha : a ∈ alignCenters v) (hb : b ∈ alignCenters v)
    (h : a < b + 12) (h' : b < a + 12) : a = b := by
  by_contra hne
  have hsymm : Std.Symm fun a b : Nat => a + 12 ≤ b ∨ b + 12 ≤ a := ⟨fun _ _ => Or.symm⟩
  have hapart : (alignCenters v).Pairwise fun a b => a + 12 ≤ b ∨ b + 12 ≤ a := (alignCenters_pairwise v).imp Or.inl
  rcases hapart.forall ha hb hne with h | h <;> omega

/-- No module belongs to the patterns of two centres (R153). -/
theorem alignCentersProduct_apart {v : Version} {c d : Nat × Nat} (hc : c ∈ alignCentersProduct v)
    (hd : d ∈ alignCentersProduct v) {x y : Int} (hcr : ringOf c.1 c.2 x y ≤ 2) (hdr : ringOf d.1 d.2 x y ≤ 2) : c = d := by
  obtain ⟨hc1, hc2⟩ := mem_alignCentersProduct.mp hc
  obtain ⟨hd1, hd2⟩ := mem_alignCentersProduct.mp hd
  rw [ringOf_le] at hcr hdr
  exact Prod.ext (eq_of_alignCenters_near hc1 hd1 (by omega) (by omega)) (eq_of_alignCenters_near hc2 hd2 (by omega) (by omega))

theorem nodup_alignCentersProduct (v : Version) : (alignCentersProduct v).Nodup := by
  have h : (alignCenters v).Nodup := (alignCenters_pairwise v).imp fun h => by omega
  exact h.product h

/-- No pattern hits the centre of another. -/
theorem alignCentersProduct_pairwise (v : Version) :
    (alignCentersProduct v).Pairwise fun c d => ∀ s ∈ alignStrokes c.1 c.2, ¬(s.x = d.1 ∧ s.y = d.2) := by
  refine (nodup_alignCentersProduct v).pairwise_of_forall_ne fun c hc d hd hne => ?_
  rintro ⟨x, y, w⟩ hs ⟨rfl, rfl⟩
  exact hne (alignCentersProduct_apart hc hd (mem_alignStrokes.mp hs).1 (ringOf_le.mpr (by omega)))

theorem alignmentModule_eq_some {q : QrMatrix} {x y : Int} {v : Bool} :
    alignmentModule q x y = some v ↔ ∃ c ∈ alignCentersProduct q.version, q.isFunc c.1 c.2 = false ∧
      ringOf c.1 c.2 x y ≤ 2 ∧ decide (ringOf c.1 c.2 x y ≠ 1) = v := by
  have hfind : alignmentModule q x y = ((alignCentersProduct q.version).find? fun c => !q.isFunc c.1 c.2 &&
      decide (ringOf c.1 c.2 x y ≤ 2)).map fun c => decide (ringOf c.1 c.2 x y ≠ 1) := rfl
  rw [hfind, Option.map_eq_some_iff]
  constructor
  · rintro ⟨c, hc, rfl⟩
    have hp := List.find?_some hc
    simp only [Bool.and_eq_true, Bool.not_eq_true', decide_eq_true_eq] at hp
    exact ⟨c, List.mem_of_find?_eq_some hc, hp.1, hp.2, rfl⟩
  · rintro ⟨c, hc, hf, hr, rfl⟩
    have hsome : ((alignCentersProduct q.version).find? fun c => !q.isFunc c.1 c.2 &&
        decide (ringOf c.1 c.2 x y ≤ 2)).isSome := List.find?_isSome.mpr ⟨c, hc, by simp [hf, hr]⟩
    obtain ⟨d, hd⟩ := Option.isSome_iff_exists.mp hsome
    have hdr := List.find?_some hd
    simp only [Bool.and_eq_true, decide_eq_true_eq] at hdr
    cases alignCentersProduct_apart hc (List.mem_of_find?_eq_some hd) hr hdr.2
    exact ⟨c, hd, rfl⟩

theorem painted_paintAlignment (q : QrMatrix) : Painted q (paintAlignment q) (alignmentModule q) := by
  rw [paintAlignment_eq, foldl_paintPatch q (alignCentersProduct_pairwise q.version)]
  refine painted_paint fun x y v _ => ?_
  simp only [alignmentModule_eq_some, List.mem_flatMap, List.mem_filter, Bool.not_eq_true', mem_alignStrokes, and_assoc]

/-- Settles O46: the patterns stand apart, so each finds its centre as it was at the start. -/
theorem paintAlignmentResult : Obligations.PaintAlignmentResult :=
  fun _ q hq => isPainter_paintAlignment.paintsExactly hq (painted_paintAlignment q)

/-! ## Timing -/

/-- The timing modules in the order they are painted, row 6 before column 6 at each coordinate (R154). -/
def timingStrokes (S : Nat) : List Stroke :=
  (timingRange S).flatMap fun (i : Nat) => [⟨i, 6, i % 2 == 0⟩, ⟨6, i, i % 2 == 0⟩]

theorem paintTiming_eq (q : QrMatrix) : paintTiming q = (timingStrokes q.size).foldl
    (QrMatrix.paintPatch Stroke.x Stroke.y (fun s => [s])) q := by
  rw [timingStrokes, List.foldl_flatMap]
  rfl

theorem mem_timingRange {S i : Nat} : i ∈ timingRange S ↔ 8 ≤ i ∧ i + 9 ≤ S := by
  simp only [timingRange, List.mem_map, List.mem_range]
  exact ⟨by rintro ⟨j, hj, rfl⟩; omega, fun h => ⟨i - 8, by omega, by omega⟩⟩

theorem timingRange_pairwise (S : Nat) : (timingRange S).Pairwise (· < ·) :=
  List.pairwise_map.mpr (List.pairwise_lt_range.imp fun h => by omega)

/-- No timing module is painted twice. -/
theorem timingStrokes_pairwise (S : Nat) :
    (timingStrokes S).Pairwise fun s t => ∀ u ∈ [s], ¬(u.x = t.x ∧ u.y = t.y) := by
  simp only [List.mem_singleton, forall_eq]
  refine List.pairwise_flatMap.mpr ⟨fun i hi => ?_, (timingRange_pairwise S).imp_of_mem fun {i j} hi hj h => ?_⟩
  · have := mem_timingRange.mp hi
    simp only [not_and, List.pairwise_cons, List.mem_cons, List.not_mem_nil, or_false, forall_eq, IsEmpty.forall_iff,
      implies_true, List.Pairwise.nil, and_self, and_true]
    omega
  · have := mem_timingRange.mp hi
    simp only [List.mem_cons, List.not_mem_nil, or_false, not_and, forall_eq_or_imp, forall_eq, Nat.cast_inj,
      not_true_eq_false, imp_false, forall_const]
    omega

theorem decide_even_natCast (n : Nat) : decide ((n : Int) % 2 = 0) = (n % 2 == 0) :=
  decide_eq_decide.mpr (by omega)

theorem timingModule_eq_some {S : Nat} {x y : Int} {v : Bool} :
    timingModule S x y = some v ↔ ⟨x, y, v⟩ ∈ timingStrokes S := by
  simp only [timingModule, timingStrokes, List.mem_flatMap, mem_timingRange, List.mem_cons, List.not_mem_nil, or_false,
    Stroke.mk.injEq]
  constructor
  · split_ifs with hrow hcol
    · rintro ⟨⟩
      obtain ⟨n, rfl⟩ := Int.eq_ofNat_of_zero_le (a := x) (by omega)
      exact ⟨n, by omega, .inl ⟨rfl, hrow.1, decide_even_natCast n⟩⟩
    · rintro ⟨⟩
      obtain ⟨n, rfl⟩ := Int.eq_ofNat_of_zero_le (a := y) (by omega)
      exact ⟨n, by omega, .inr ⟨hcol.1, rfl, decide_even_natCast n⟩⟩
    · exact False.elim
  · rintro ⟨n, hn, ⟨rfl, rfl, rfl⟩ | ⟨rfl, rfl, rfl⟩⟩
    · rw [if_pos (by omega), decide_even_natCast]
    · rw [if_neg (by omega), if_pos (by omega), decide_even_natCast]

theorem painted_paintTiming (q : QrMatrix) :
    Painted q (paintTiming q) (fun x y => if q.isFunc x y = true then none else timingModule q.size x y) := by
  rw [paintTiming_eq, foldl_paintPatch q (timingStrokes_pairwise q.size)]
  refine painted_paint fun x y v _ => ?_
  rw [Option.ite_none_left_eq_some, timingModule_eq_some, List.mem_flatMap]
  simp only [List.mem_filter, List.mem_singleton, Bool.not_eq_true', Bool.not_eq_true]
  constructor
  · rintro ⟨hf, hm⟩
    exact ⟨_, ⟨hm, hf⟩, rfl⟩
  · rintro ⟨s, ⟨hm, hf⟩, rfl⟩
    exact ⟨hf, hm⟩

/-- Settles O47: no timing module is painted twice, so each finds its own as it was at the start. -/
theorem paintTimingResult : Obligations.PaintTimingResult :=
  fun _ q hq => isPainter_paintTiming.paintsExactly hq (painted_paintTiming q)

/-! ## PAINT_FUNCTIONAL -/

theorem runCommands_cons {i : Instr} {is : List Instr} {s t : State} (h : exec i s = .next t) :
    runCommands (i :: is) s = runCommands is t := by
  rw [runCommands, h]

theorem painted_painted (s : State) (q q' : QrMatrix) (e e' : Engine) :
    (s.painted q e).painted q' e' = s.painted q' e' := rfl

/-- Painter commands one after another each paint the matrix the one before left. -/
theorem runCommands_painters {ps : List (Instr × (QrMatrix → QrMatrix))} (hps : ∀ p ∈ ps, IsPainter p.1 p.2) (s : State)
    (q : QrMatrix) (e : Engine) : ∃ e', runCommands (ps.map Prod.fst) (s.painted q e) =
      .next (s.painted (ps.foldl (fun q p => p.2 q) q) e') := by
  induction ps generalizing q e with
  | nil => exact ⟨e, rfl⟩
  | cons p ps ih =>
    obtain ⟨hp, hps⟩ := List.forall_mem_cons.mp hps
    obtain ⟨e₁, he₁⟩ := hp.exec (s := s.painted q e) rfl
    obtain ⟨e₂, he₂⟩ := ih hps (p.2 q) e₁
    exact ⟨e₂, (runCommands_cons (painted_painted s q (p.2 q) e e₁ ▸ he₁)).trans he₂⟩

/-- The steps of PAINT_FUNCTIONAL after PAINT_FINDERS, in the listed order (R159). -/
def laterSteps : List (Instr × (QrMatrix → QrMatrix)) :=
  [(.paintSeparators, paintSeparators), (.paintAlignment, paintAlignment), (.paintTiming, paintTiming),
    (.paintDark, paintDark), (.reserveFormat, reserveFormat), (.reserveVersion, reserveVersion)]

theorem isPainter_of_mem_laterSteps : ∀ p ∈ laterSteps, IsPainter p.1 p.2 := by
  simp only [laterSteps, List.forall_mem_cons, List.not_mem_nil, false_imp_iff, implies_true, and_true]
  exact ⟨isPainter_paintSeparators, isPainter_paintAlignment, isPainter_paintTiming, isPainter_paintDark,
    isPainter_reserveFormat, isPainter_reserveVersion⟩

theorem foldl_laterSteps (q : QrMatrix) : laterSteps.foldl (fun q p => p.2 q) (paintFinders q) = paintFunctional q := by
  simp only [laterSteps, List.foldl_cons, List.foldl_nil, paintFunctional]

/-- Settles O53: each of the seven commands runs on the matrix the one before left. -/
theorem paintFunctionalIsTheSevenSteps : Obligations.PaintFunctionalIsTheSevenSteps := by
  refine fun s => ⟨fun hnone => ?_, fun q hq => ?_⟩
  · have hbody : commandBody .paintFunctional s = .error .noMatrix := painterBody_error.mpr ⟨hnone, rfl⟩
    rw [RaisesOnly, exec_eq_runCommand, hbody]
    rfl
  · obtain ⟨e, he⟩ := isPainter_paintFunctional.exec hq
    obtain ⟨e₁, he₁⟩ := isPainter_paintFinders.exec hq
    obtain ⟨e₂, he₂⟩ := runCommands_painters isPainter_of_mem_laterSteps s (paintFinders q) e₁
    rw [foldl_laterSteps] at he₂
    exact ⟨_, _, he, (runCommands_cons he₁).trans he₂, rfl, rfl⟩

end Sys2Proof.Machine

/-! PROOF. The functional modules after MAT_NEW and PAINT_FUNCTIONAL, as rectangles of modules, and how many they are
(43_painter.md R160). -/

namespace Sys2Proof.Machine

open Finset (range Ico Icc)

/-! ## Counting functional modules -/

theorem isFunc_natCast {q : QrMatrix} {x y : Nat} (hx : x < q.size) (hy : y < q.size) :
    q.isFunc x y = planeBit q.functional (x + q.size * y) := by
  rw [QrMatrix.isFunc, get_natCast hx hy]

/-- The functional count is the size of any set that holds just the coordinates of the functional modules. -/
theorem functionalCount_eq_card {q : QrMatrix} {F : Finset (Nat × Nat)}
    (h : ∀ x y, (x, y) ∈ F ↔ x < q.size ∧ y < q.size ∧ q.isFunc x y = true) : q.functionalCount = F.card := by
  have hrange : q.functionalCount = ((range (q.size * q.size)).filter fun p => planeBit q.functional p = true).card := by
    rw [← Nat.count_eq_card_filter_range, Nat.count, List.countP_eq_length_filter]
    simp only [QrMatrix.functionalCount, Bool.decide_eq_true]
  rw [hrange]
  refine Finset.card_nbij' (fun p => (p % q.size, p / q.size)) (fun c => c.1 + q.size * c.2) ?_ ?_ ?_ ?_
  · intro p hp
    obtain ⟨hlt, hbit⟩ := Finset.mem_filter.mp hp
    have hx : p % q.size < q.size := Nat.mod_lt _ (by have := size_ge q; omega)
    have hy : p / q.size < q.size := Nat.div_lt_of_lt_mul (Finset.mem_range.mp hlt)
    exact (h _ _).mpr ⟨hx, hy, by rw [isFunc_natCast hx hy, Nat.mod_add_div, hbit]⟩
  · rintro ⟨x, y⟩ hc
    obtain ⟨hx, hy, hf⟩ := (h x y).mp hc
    have hidx : x + q.size * y < q.size * q.size := idx_lt ((inb_natCast q x y).mpr ⟨hx, hy⟩)
    exact Finset.mem_filter.mpr ⟨Finset.mem_range.mpr hidx, by rw [← isFunc_natCast hx hy, hf]⟩
  · exact fun p _ => Nat.mod_add_div p q.size
  · rintro ⟨x, y⟩ hc
    obtain ⟨hx, -, -⟩ := (h x y).mp hc
    exact Prod.ext (by simp [Nat.mod_eq_of_lt hx])
      (by simp [Nat.add_mul_div_left x y (by omega : 0 < q.size), Nat.div_eq_of_lt hx])

/-! ## The alignment centres of a version -/

/-- The alignment centres after the first, which is 6. -/
def laterCenters (v : Version) : List Nat := (alignCenters v).tail

/-- The alignment centres between the first, 6, and the last, `S − 7`. -/
def middleCenters (v : Version) : List Nat := (laterCenters v).dropLast

theorem alignCenters_eq (v : Version) :
    alignCenters v = if v.num = 1 then [] else 6 :: (middleCenters v ++ [v.size - 7]) := by
  obtain ⟨row⟩ := v
  revert row; decide +kernel

theorem laterCenters_eq (v : Version) : laterCenters v = if v.num = 1 then [] else middleCenters v ++ [v.size - 7] := by
  rw [laterCenters, alignCenters_eq]
  split <;> rfl

theorem size_eq (v : Version) : v.size = 17 + 4 * v.num := rfl

theorem one_le_num (v : Version) : 1 ≤ v.num := Nat.succ_pos _

theorem two_le_num_iff (v : Version) : 2 ≤ v.num ↔ ¬v.num = 1 := by
  have hv := one_le_num v
  omega

theorem middleCenters_eq_nil {v : Version} (h : v.num = 1) : middleCenters v = [] := by
  rw [middleCenters, laterCenters_eq, if_pos h, List.dropLast_nil]

theorem mem_alignCenters {v : Version} {a : Nat} : a ∈ alignCenters v ↔ (2 ≤ v.num ∧ a = 6) ∨ a ∈ laterCenters v := by
  rw [alignCenters_eq, laterCenters_eq, two_le_num_iff]
  split <;> simp [*]

theorem mem_laterCenters {v : Version} {a : Nat} :
    a ∈ laterCenters v ↔ a ∈ middleCenters v ∨ (2 ≤ v.num ∧ a = v.size - 7) := by
  rw [laterCenters_eq, two_le_num_iff]
  split
  · next h => simp [middleCenters_eq_nil h, h]
  · next h => simp [h]

/-- From one centre to the next the step is 12 at least, so those between 6 and `S − 7` keep that far from both. -/
theorem middleCenters_bounds {v : Version} {a : Nat} (h : a ∈ middleCenters v) : 18 ≤ a ∧ a + 19 ≤ v.size := by
  have hv : ¬v.num = 1 := fun hv => by simp [middleCenters_eq_nil hv] at h
  have hsteps := alignCenters_pairwise v
  rw [alignCenters_eq, if_neg hv, List.pairwise_cons, List.pairwise_append] at hsteps
  obtain ⟨hfirst, -, -, hlast⟩ := hsteps
  have h6 := hfirst a (List.mem_append_left _ h)
  have h7 := hlast a h _ (List.mem_singleton_self _)
  omega

theorem laterCenters_bounds {v : Version} {a : Nat} (h : a ∈ laterCenters v) : 18 ≤ a ∧ a + 7 ≤ v.size := by
  rcases mem_laterCenters.mp h with h | ⟨hv, rfl⟩
  · have := middleCenters_bounds h
    omega
  · have hS := size_eq v
    omega

/-! ## Rectangles of functional modules -/

/-- The coordinates within 2 of a centre of the list. -/
def bands (l : List Nat) : Finset Nat := l.toFinset.biUnion fun a => Icc (a - 2) (a + 2)

theorem mem_bands {l : List Nat} {x : Nat} : x ∈ bands l ↔ ∃ a ∈ l, a - 2 ≤ x ∧ x ≤ a + 2 := by
  simp [bands]

theorem card_bands {l : List Nat} (hl : l.Pairwise fun a b => a + 12 ≤ b) (h2 : ∀ a ∈ l, 2 ≤ a) :
    (bands l).card = 5 * l.length := by
  induction hl with
  | nil => rfl
  | @cons a l hal _ ih =>
    have hunion : bands (a :: l) = Icc (a - 2) (a + 2) ∪ bands l := by simp [bands]
    have hdisj : Disjoint (Icc (a - 2) (a + 2)) (bands l) := by
      refine Finset.disjoint_left.mpr fun x hx hl => ?_
      obtain ⟨b, hb, hbx⟩ := mem_bands.mp hl
      have := hal b hb
      have := Finset.mem_Icc.mp hx
      omega
    have := h2 a List.mem_cons_self
    rw [hunion, Finset.card_union_of_disjoint hdisj, Nat.card_Icc, ih fun b hb => h2 b (List.mem_cons_of_mem _ hb),
      List.length_cons]
    omega

/-- The width of a version block's short side: 3 for `V ≥ 7`, and none below (R158). -/
def versionBand (v : Version) : Nat := if 7 ≤ v.num then 3 else 0

theorem versionBand_cases (v : Version) : (v.num < 7 ∧ versionBand v = 0) ∨ (7 ≤ v.num ∧ versionBand v = 3) := by
  unfold versionBand
  split <;> omega

/-- The functional modules that are there whatever the alignment centres: each finder with its separator, format cells and dark
module, then the timing lines between them, then the version blocks. -/
def fixedRectangles (v : Version) : Finset (Nat × Nat) :=
  range 9 ×ˢ range 9 ∪ (Ico (v.size - 8) v.size ×ˢ range 9 ∪ (range 9 ×ˢ Ico (v.size - 8) v.size ∪
    (Ico 9 (v.size - 8) ×ˢ {6} ∪ ({6} ×ˢ Ico 9 (v.size - 8) ∪
      (Ico (v.size - 11) (v.size - 11 + versionBand v) ×ˢ range 6 ∪
        range 6 ×ˢ Ico (v.size - 11) (v.size - 11 + versionBand v))))))

/-- The modules of alignment patterns that stand on no timing line: away from the lines, and beside each of them. -/
def alignmentRectangles (v : Version) : Finset (Nat × Nat) :=
  bands (laterCenters v) ×ˢ bands (laterCenters v) ∪
    (bands (middleCenters v) ×ˢ {4, 5, 7, 8} ∪ {4, 5, 7, 8} ×ˢ bands (middleCenters v))

theorem mem_fixedRectangles {v : Version} {x y : Nat} : (x, y) ∈ fixedRectangles v ↔
    (x < 9 ∧ y < 9) ∨ ((v.size - 8 ≤ x ∧ x < v.size) ∧ y < 9) ∨ (x < 9 ∧ (v.size - 8 ≤ y ∧ y < v.size)) ∨
    ((9 ≤ x ∧ x < v.size - 8) ∧ y = 6) ∨ (x = 6 ∧ (9 ≤ y ∧ y < v.size - 8)) ∨
    ((v.size - 11 ≤ x ∧ x < v.size - 11 + versionBand v) ∧ y < 6) ∨
    (x < 6 ∧ (v.size - 11 ≤ y ∧ y < v.size - 11 + versionBand v)) := by
  simp only [fixedRectangles, Finset.mem_union, Finset.mem_product, Finset.mem_range, Finset.mem_Ico, Finset.mem_singleton]

theorem card_fixedRectangles (v : Version) : (fixedRectangles v).card = 225 + 2 * (v.size - 17) + 12 * versionBand v := by
  have hS := size_eq v
  have hv := one_le_num v
  have hV := versionBand_cases v
  unfold fixedRectangles
  rw [Finset.card_union_of_disjoint, Finset.card_union_of_disjoint, Finset.card_union_of_disjoint,
    Finset.card_union_of_disjoint, Finset.card_union_of_disjoint, Finset.card_union_of_disjoint]
  · simp only [Finset.card_product, Finset.card_range, Nat.card_Ico, Finset.card_singleton]
    omega
  all_goals
    refine Finset.disjoint_left.mpr ?_
    rintro ⟨x, y⟩
    simp only [Finset.mem_union, Finset.mem_product, Finset.mem_range, Finset.mem_Ico, Finset.mem_singleton]
    omega

theorem bands_laterCenters_bounds {v : Version} {x : Nat} (h : x ∈ bands (laterCenters v)) : 16 ≤ x ∧ x + 5 ≤ v.size := by
  obtain ⟨a, ha, hx⟩ := mem_bands.mp h
  have := laterCenters_bounds ha
  omega

theorem bands_middleCenters_bounds {v : Version} {x : Nat} (h : x ∈ bands (middleCenters v)) :
    16 ≤ x ∧ x + 17 ≤ v.size := by
  obtain ⟨a, ha, hx⟩ := mem_bands.mp h
  have := middleCenters_bounds ha
  omega

theorem laterCenters_pairwise (v : Version) : (laterCenters v).Pairwise fun a b => a + 12 ≤ b :=
  (alignCenters_pairwise v).tail

theorem middleCenters_pairwise (v : Version) : (middleCenters v).Pairwise fun a b => a + 12 ≤ b :=
  (laterCenters_pairwise v).sublist (List.dropLast_sublist _)

theorem card_bands_laterCenters (v : Version) : (bands (laterCenters v)).card = 5 * ((alignCenters v).length - 1) := by
  rw [card_bands (laterCenters_pairwise v) fun a ha => by have := laterCenters_bounds ha; omega, laterCenters,
    List.length_tail]

theorem card_bands_middleCenters (v : Version) : (bands (middleCenters v)).card = 5 * ((alignCenters v).length - 2) := by
  rw [card_bands (middleCenters_pairwise v) fun a ha => by have := middleCenters_bounds ha; omega, middleCenters,
    laterCenters, List.length_dropLast, List.length_tail, Nat.sub_sub]

theorem mem_alignmentRectangles {v : Version} {x y : Nat} : (x, y) ∈ alignmentRectangles v ↔
    (x ∈ bands (laterCenters v) ∧ y ∈ bands (laterCenters v)) ∨
    (x ∈ bands (middleCenters v) ∧ (y = 4 ∨ y = 5 ∨ y = 7 ∨ y = 8)) ∨
    ((x = 4 ∨ x = 5 ∨ x = 7 ∨ x = 8) ∧ y ∈ bands (middleCenters v)) := by
  simp only [alignmentRectangles, Finset.mem_union, Finset.mem_product, Finset.mem_insert, Finset.mem_singleton]

theorem card_alignmentRectangles (v : Version) : (alignmentRectangles v).card =
    25 * ((alignCenters v).length - 1) ^ 2 + 40 * ((alignCenters v).length - 2) := by
  unfold alignmentRectangles
  rw [Finset.card_union_of_disjoint, Finset.card_union_of_disjoint]
  · simp only [Finset.card_product, card_bands_laterCenters, card_bands_middleCenters]
    norm_num
    ring
  all_goals
    refine Finset.disjoint_left.mpr ?_
    rintro ⟨x, y⟩
    simp only [Finset.mem_union, Finset.mem_product, Finset.mem_insert, Finset.mem_singleton]
  · rintro ⟨hx, -⟩ ⟨hx', -⟩
    have := bands_middleCenters_bounds hx
    omega
  · rintro ⟨hx, hy⟩ h
    have := bands_laterCenters_bounds hx
    have := bands_laterCenters_bounds hy
    omega

theorem disjoint_fixedRectangles_alignmentRectangles (v : Version) : Disjoint (fixedRectangles v) (alignmentRectangles v) := by
  have hS := size_eq v
  have hV := versionBand_cases v
  refine Finset.disjoint_left.mpr ?_
  rintro ⟨x, y⟩ hf ha
  rw [mem_fixedRectangles] at hf
  rcases mem_alignmentRectangles.mp ha with ⟨hx, hy⟩ | ⟨hx, hy⟩ | ⟨hx, hy⟩
  · have := bands_laterCenters_bounds hx
    have := bands_laterCenters_bounds hy
    omega
  · have := bands_middleCenters_bounds hx
    omega
  · have := bands_middleCenters_bounds hy
    omega

/-- The table of R160 is what these rectangles come to, and `RAW(V)` is what they leave. -/
theorem functionalTable_eq (v : Version) :
    let n := 225 + 2 * (v.size - 17) + 12 * versionBand v +
      (25 * ((alignCenters v).length - 1) ^ 2 + 40 * ((alignCenters v).length - 2))
    n = functionalTable.getD v.row.val 0 ∧ n + v.raw = v.size * v.size := by
  obtain ⟨row⟩ := v
  revert row; decide +kernel

/-! ## Which coordinates each step has -/

theorem finderModule_isSome {S x y : Int} : (finderModule S x y).isSome = true ↔
    ringOf 3 3 x y ≤ 3 ∨ ringOf (S - 4) 3 x y ≤ 3 ∨ ringOf 3 (S - 4) x y ≤ 3 := by
  simp only [finderModule, Option.isSome_or, Bool.or_eq_true, finderAt_isSome]

theorem separatorModule_isSome {S x y : Int} : (separatorModule S x y).isSome = true ↔
    ringOf 3 3 x y = 4 ∨ ringOf (S - 4) 3 x y = 4 ∨ ringOf 3 (S - 4) x y = 4 := by
  simp [separatorModule]

theorem timingModule_isSome {S x y : Int} : (timingModule S x y).isSome = true ↔
    (y = 6 ∧ 8 ≤ x ∧ x ≤ S - 9) ∨ (x = 6 ∧ 8 ≤ y ∧ y ≤ S - 9) := by
  unfold timingModule
  split_ifs <;> simp <;> omega

theorem darkModule_isSome {V x y : Int} : (darkModule V x y).isSome = true ↔ x = 8 ∧ y = 4 * V + 9 := by
  simp [darkModule]

theorem formatCellIndex_isSome {S x y : Int} : (formatCellIndex S x y).isSome = true ↔
    (y = 8 ∧ 0 ≤ x ∧ x ≤ 8 ∧ x ≠ 6) ∨ (x = 8 ∧ 0 ≤ y ∧ y ≤ 7 ∧ y ≠ 6) ∨ (x = 8 ∧ S - 7 ≤ y ∧ y ≤ S - 1) ∨
      (y = 8 ∧ S - 8 ≤ x ∧ x ≤ S - 1) := by
  unfold formatCellIndex
  split_ifs <;> simp <;> omega

theorem versionCellIndex_isSome {S x y : Int} : (versionCellIndex S x y).isSome = true ↔
    (0 ≤ x ∧ x ≤ 5 ∧ S - 11 ≤ y ∧ y ≤ S - 9) ∨ (0 ≤ y ∧ y ≤ 5 ∧ S - 11 ≤ x ∧ x ≤ S - 9) := by
  unfold versionCellIndex
  split_ifs <;> simp <;> omega

theorem alignmentModule_isSome {q : QrMatrix} {x y : Int} : (alignmentModule q x y).isSome = true ↔
    ∃ a ∈ alignCenters q.version, ∃ b ∈ alignCenters q.version, q.isFunc a b = false ∧ ringOf a b x y ≤ 2 := by
  rw [Option.isSome_iff_exists]
  simp only [alignmentModule_eq_some, Prod.exists, mem_alignCentersProduct]
  constructor
  · rintro ⟨_, a, b, ⟨ha, hb⟩, hf, hr, -⟩
    exact ⟨a, ha, b, hb, hf, hr⟩
  · rintro ⟨a, ha, b, hb, hf, hr⟩
    exact ⟨_, a, b, ⟨ha, hb⟩, hf, hr, rfl⟩

/-! ## The functional modules after PAINT_FUNCTIONAL -/

/-- The matrix that PAINT_ALIGNMENT finds when PAINT_FUNCTIONAL paints `q`. -/
def withFinders (q : QrMatrix) : QrMatrix := paintSeparators (paintFinders q)

theorem painted_withFinders (q : QrMatrix) :
    Painted q (withFinders q) (fun x y => (separatorModule q.size x y).or (finderModule q.size x y)) := by
  have h := (painted_paintFinders q).trans (painted_paintSeparators _)
  rwa [(sameTail_paintFinders q).size] at h

/-- What PAINT_FUNCTIONAL paints, the last of its seven steps first: where two steps paint a module, the later one stands
(R159). -/
theorem painted_paintFunctional (q : QrMatrix) : Painted q (paintFunctional q) (fun x y =>
    (if 7 ≤ q.version.num then (versionCellIndex q.size x y).map (fun _ => false) else none).or
    (((formatCellIndex q.size x y).map (fun _ => false)).or ((darkModule q.version.num x y).or
    ((if (paintAlignment (withFinders q)).isFunc x y = true then none else timingModule q.size x y).or
    ((alignmentModule (withFinders q) x y).or ((separatorModule q.size x y).or (finderModule q.size x y))))))) := by
  have htail₂ := (painted_withFinders q).1
  have htail₃ := htail₂.trans (sameTail_paintAlignment _)
  have htail₄ := htail₃.trans (sameTail_paintTiming _)
  have htail₅ := htail₄.trans (sameTail_paintDark _)
  have htail₆ := htail₅.trans (sameTail_reserveFormat _)
  have h := (((((painted_withFinders q).trans (painted_paintAlignment _)).trans (painted_paintTiming _)).trans
    (painted_paintDark _)).trans (painted_reserveFormat _)).trans (painted_reserveVersion _)
  rwa [htail₃.size, htail₄.1, htail₅.size, htail₆.1, htail₆.size] at h

theorem new_size (v : Version) : (QrMatrix.new v).size = v.size := rfl

theorem isFunc_new (v : Version) (x y : Int) : (QrMatrix.new v).isFunc x y = false := by
  unfold QrMatrix.isFunc QrMatrix.get
  split_ifs <;> simp [planeBit_new]

theorem isFunc_withFinders_new {v : Version} {x y : Int} (hin : (QrMatrix.new v).inb x y = true) :
    (withFinders (QrMatrix.new v)).isFunc x y =
      ((separatorModule v.size x y).isSome || (finderModule v.size x y).isSome) := by
  rw [(painted_withFinders _).isFunc hin, isFunc_new, Bool.or_false, Option.isSome_or]
  rfl

theorem isSome_ite_none {p : Prop} [Decidable p] {o : Option Bool} :
    (if p then o else none).isSome = true ↔ p ∧ o.isSome = true := by
  split <;> simp [*]

theorem isSome_none_ite {p : Prop} [Decidable p] {o : Option Bool} :
    (if p then none else o).isSome = true ↔ ¬p ∧ o.isSome = true := by
  split <;> simp [*]

/-- A module is functional after PAINT_FUNCTIONAL on a fresh matrix where one of the seven steps finds it among its own. -/
theorem isFunc_paintFunctional_new {v : Version} {x y : Int} (hin : (QrMatrix.new v).inb x y = true) :
    (paintFunctional (QrMatrix.new v)).isFunc x y = true ↔
      (alignmentModule (withFinders (QrMatrix.new v)) x y).isSome = true ∨
      (7 ≤ v.num ∧ (versionCellIndex v.size x y).isSome = true) ∨ (formatCellIndex v.size x y).isSome = true ∨
      (darkModule v.num x y).isSome = true ∨ (timingModule v.size x y).isSome = true ∨
      (separatorModule v.size x y).isSome = true ∨ (finderModule v.size x y).isSome = true := by
  have hguard := (painted_paintAlignment (withFinders (QrMatrix.new v))).isFunc (((painted_withFinders _).1.inb x y).trans hin)
  rw [isFunc_withFinders_new hin] at hguard
  rw [(painted_paintFunctional _).isFunc hin, isFunc_new, hguard]
  simp only [Option.isSome_or, isSome_ite_none, isSome_none_ite, Option.isSome_map, Bool.or_false, Bool.or_eq_true]
  rw [new_version, new_size]
  generalize (alignmentModule (withFinders (QrMatrix.new v)) x y).isSome = a
  tauto

/-! ## These modules fill the rectangles -/

/-- The finders and their separators are the three corners of 8 by 8 modules (R151, R152). -/
theorem corners_iff {S x y : Nat} (hS : 21 ≤ S) (hx : x < S) (hy : y < S) :
    (separatorModule S x y).isSome = true ∨ (finderModule S x y).isSome = true ↔
      (x < 8 ∧ y < 8) ∨ (S - 8 ≤ x ∧ y < 8) ∨ (x < 8 ∧ S - 8 ≤ y) := by
  have hsquare (cx cy : Int) : ringOf cx cy x y = 4 ∨ ringOf cx cy x y ≤ 3 ↔
      cx - 4 ≤ x ∧ x ≤ cx + 4 ∧ cy - 4 ≤ y ∧ y ≤ cy + 4 :=
    Iff.trans (by omega) (ringOf_le (n := 4))
  rw [separatorModule_isSome, finderModule_isSome, or_or_or_comm, or_or_or_comm (a := ringOf (S - 4) 3 x y = 4),
    hsquare, hsquare, hsquare]
  lia

theorem mem_fixedRectangles_iff {v : Version} {x y : Nat} (hx : x < v.size) (hy : y < v.size) : (x, y) ∈ fixedRectangles v ↔
    (7 ≤ v.num ∧ (versionCellIndex v.size x y).isSome = true) ∨ (formatCellIndex v.size x y).isSome = true ∨
      (darkModule v.num x y).isSome = true ∨ (timingModule v.size x y).isSome = true ∨
      (separatorModule v.size x y).isSome = true ∨ (finderModule v.size x y).isSome = true := by
  have hS := size_eq v
  have hv := one_le_num v
  have hV := versionBand_cases v
  rw [corners_iff v.size_bounds.1 hx hy, mem_fixedRectangles, versionCellIndex_isSome, formatCellIndex_isSome,
    darkModule_isSome, timingModule_isSome]
  constructor
  · rintro (h | h | h | h | h | h | h) <;> lia
  · rintro (⟨hv, h | h⟩ | (h | h | h | h) | h | (h | h) | h | h | h) <;> lia

theorem alignCenters_lt {v : Version} {a : Nat} (h : a ∈ alignCenters v) : a < v.size := by
  have hS := v.size_bounds
  rcases mem_alignCenters.mp h with ⟨-, rfl⟩ | h
  · omega
  · have := laterCenters_bounds h
    omega

/-- On a fresh matrix the patterns of R153 are those whose centre is in no finder's corner. -/
theorem alignmentModule_withFinders_isSome {v : Version} {x y : Nat} :
    (alignmentModule (withFinders (QrMatrix.new v)) x y).isSome = true ↔
      ∃ a ∈ alignCenters v, ∃ b ∈ alignCenters v,
        ¬((a < 8 ∧ b < 8) ∨ (v.size - 8 ≤ a ∧ b < 8) ∨ (a < 8 ∧ v.size - 8 ≤ b)) ∧
        (a - 2 ≤ x ∧ x ≤ a + 2) ∧ (b - 2 ≤ y ∧ y ≤ b + 2) := by
  rw [alignmentModule_isSome, (painted_withFinders _).1.1, new_version]
  refine exists_congr fun a => and_congr_right fun ha => exists_congr fun b => and_congr_right fun hb => and_congr ?_ ?_
  · have ha := alignCenters_lt ha
    have hb := alignCenters_lt hb
    rw [isFunc_withFinders_new ((inb_natCast _ a b).mpr ⟨ha, hb⟩), ← corners_iff v.size_bounds.1 ha hb,
      Bool.or_eq_false_iff, not_or, Bool.not_eq_true, Bool.not_eq_true]
  · exact ringOf_le.trans (by lia)

/-- A pattern is away from the timing lines, or across one of them; where it crosses, its line has the module already. -/
theorem mem_rectangles_iff {v : Version} {x y : Nat} : (x, y) ∈ fixedRectangles v ∪ alignmentRectangles v ↔
    (alignmentModule (withFinders (QrMatrix.new v)) x y).isSome = true ∨ (x, y) ∈ fixedRectangles v := by
  have hS := size_eq v
  rw [Finset.mem_union, or_comm, mem_alignmentRectangles, alignmentModule_withFinders_isSome]
  simp only [mem_bands]
  constructor
  · rintro ((⟨⟨a, ha, hx⟩, b, hb, hy⟩ | ⟨⟨a, ha, hx⟩, hy⟩ | ⟨hx, b, hb, hy⟩) | h)
    · have := laterCenters_bounds ha
      have := laterCenters_bounds hb
      exact .inl ⟨a, mem_alignCenters.mpr (.inr ha), b, mem_alignCenters.mpr (.inr hb), by omega, hx, hy⟩
    · have := middleCenters_bounds ha
      exact .inl ⟨a, mem_alignCenters.mpr (.inr (mem_laterCenters.mpr (.inl ha))), 6,
        mem_alignCenters.mpr (.inl ⟨by omega, rfl⟩), by omega, hx, by omega⟩
    · have := middleCenters_bounds hb
      exact .inl ⟨6, mem_alignCenters.mpr (.inl ⟨by omega, rfl⟩), b,
        mem_alignCenters.mpr (.inr (mem_laterCenters.mpr (.inl hb))), by omega, by omega, hy⟩
    · exact .inr h
  · rintro (⟨a, ha, b, hb, hcorner, hx, hy⟩ | h)
    · rcases mem_alignCenters.mp ha with ⟨hv, rfl⟩ | ha <;> rcases mem_alignCenters.mp hb with ⟨-, rfl⟩ | hb
      · omega
      · rcases mem_laterCenters.mp hb with hb | ⟨-, rfl⟩
        · have := middleCenters_bounds hb
          by_cases h6 : x = 6
          · exact .inr (mem_fixedRectangles.mpr (by omega))
          · exact .inl (.inr (.inr ⟨by omega, b, hb, hy⟩))
        · omega
      · rcases mem_laterCenters.mp ha with ha | ⟨-, rfl⟩
        · have := middleCenters_bounds ha
          by_cases h6 : y = 6
          · exact .inr (mem_fixedRectangles.mpr (by omega))
          · exact .inl (.inr (.inl ⟨⟨a, ha, hx⟩, by omega⟩))
        · omega
      · exact .inl (.inl ⟨⟨a, ha, hx⟩, b, hb, hy⟩)
    · exact .inr h

theorem rectangles_bounds {v : Version} {x y : Nat} (h : (x, y) ∈ fixedRectangles v ∪ alignmentRectangles v) :
    x < v.size ∧ y < v.size := by
  have hS := v.size_bounds
  rcases Finset.mem_union.mp h with h | h
  · have hV := versionBand_cases v
    rw [mem_fixedRectangles] at h
    omega
  · rcases mem_alignmentRectangles.mp h with ⟨hx, hy⟩ | ⟨hx, hy⟩ | ⟨hx, hy⟩
    · have := bands_laterCenters_bounds hx
      have := bands_laterCenters_bounds hy
      omega
    · have := bands_middleCenters_bounds hx
      omega
    · have := bands_middleCenters_bounds hy
      omega

/-- The functional modules of a fresh symbol are these rectangles of modules. -/
theorem mem_rectangles_iff_isFunc {v : Version} {x y : Nat} : (x, y) ∈ fixedRectangles v ∪ alignmentRectangles v ↔
    x < v.size ∧ y < v.size ∧ (paintFunctional (QrMatrix.new v)).isFunc x y = true := by
  have hfunc (hx : x < v.size) (hy : y < v.size) :
      (x, y) ∈ fixedRectangles v ∪ alignmentRectangles v ↔ (paintFunctional (QrMatrix.new v)).isFunc x y = true := by
    rw [mem_rectangles_iff, mem_fixedRectangles_iff hx hy, isFunc_paintFunctional_new ((inb_natCast _ x y).mpr ⟨hx, hy⟩)]
  constructor
  · intro h
    obtain ⟨hx, hy⟩ := rectangles_bounds h
    exact ⟨hx, hy, (hfunc hx hy).mp h⟩
  · rintro ⟨hx, hy, h⟩
    exact (hfunc hx hy).mpr h

theorem functionalCount_paintFunctional_new (v : Version) : (paintFunctional (QrMatrix.new v)).functionalCount =
    225 + 2 * (v.size - 17) + 12 * versionBand v +
      (25 * ((alignCenters v).length - 1) ^ 2 + 40 * ((alignCenters v).length - 2)) := by
  rw [functionalCount_eq_card (F := fixedRectangles v ∪ alignmentRectangles v),
    Finset.card_union_of_disjoint (disjoint_fixedRectangles_alignmentRectangles v), card_fixedRectangles,
    card_alignmentRectangles]
  intro x y
  rw [(painted_paintFunctional _).1.size, new_size]
  exact mem_rectangles_iff_isFunc

/-- Settles O54: the functional modules fill disjoint rectangles, whose sizes add up to the table's row. -/
theorem functionalCounts : Obligations.FunctionalCounts := by
  intro s v hv
  have hnew := exec_of_commandBody_ok (commandBody_matNew hv)
  obtain ⟨e, he⟩ := isPainter_paintFunctional.exec (s := (s.matNewEffect v).complete) rfl
  refine ⟨_, _, (runCommands_cons hnew).trans ((runCommands_cons he).trans rfl), rfl, ?_⟩
  rw [functionalCount_paintFunctional_new]
  exact functionalTable_eq v

end Sys2Proof.Machine

/-! PROOF. The path of the data-placement walk: its FSM moves along the visit order whatever the matrix, and passes every
coordinate except column 6 once (44_walk.md R171 to R177). -/

namespace Sys2Proof.Machine

/-! ## The path of the FSM -/

/-- The right column of the pair after the one of right column `xr`: column 6 is skipped (R174). -/
def nextPair (xr : Int) : Int := if xr = 8 then 5 else xr - 2

theorem nextPair_eq (xr : Int) : nextPair xr = if xr - 2 = 6 then 5 else xr - 2 := by
  unfold nextPair
  split <;> split <;> omega

/-- The positions the FSM takes in a symbol of size `S` (R172, R174, R177): the right columns `S−1, S−3, …, 8, 5, 3, 1` and
at the end −1, upwards in every second pair, and at the end in the last row. -/
structure WalkFsm.OnPath (S : Nat) (f : WalkFsm) : Prop where
  row : 0 ≤ f.y ∧ f.y < S
  pair : f.xr % 2 = 0 ∧ 8 ≤ f.xr ∧ (f.up = true ↔ f.xr % 4 = 0) ∨
    f.xr % 2 = 1 ∧ -1 ≤ f.xr ∧ f.xr ≤ 5 ∧ (f.up = true ↔ f.xr % 4 = 3)
  last : f.xr = -1 → f.y = S - 1

/-- The coordinates that the FSM has not passed: the columns left of its pair, and of its pair the rows from its own on. -/
def WalkFsm.Ahead (S : Nat) (f : WalkFsm) (x y : Int) : Prop :=
  (0 ≤ x ∧ x ≠ 6 ∧ 0 ≤ y ∧ y < S) ∧
    (x ≤ f.xr - 2 ∨ f.xr - 1 ≤ x ∧ x ≤ f.xr ∧ (f.up = true ∧ y ≤ f.y ∨ f.up = false ∧ f.y ≤ y))

/-- A bound on the passes still to make: `S` for each column, and the rows of the pair. -/
def WalkFsm.passBound (S : Nat) (f : WalkFsm) : Nat :=
  f.xr.toNat * S + (if f.up then f.y + 1 else S - f.y).toNat

section
variable {S : Nat} {f : WalkFsm} (h : f.OnPath S)
include h

/-- Everything a move can do: a row up, a row down, or at the top or the bottom a turn into the next pair (R174). -/
theorem advance_cases :
    (f.up = true ∧ 0 < f.y ∧ f.advance S = { f with y := f.y - 1, col := .right }) ∨
    (f.up = false ∧ f.y < S - 1 ∧ f.advance S = { f with y := f.y + 1, col := .right }) ∨
    (f.up = true ∧ f.y = 0 ∧ f.advance S = { f with up := false, xr := nextPair f.xr, col := .right }) ∨
    (f.up = false ∧ f.y = S - 1 ∧ f.advance S = { f with up := true, xr := nextPair f.xr, col := .right }) := by
  obtain ⟨hy0, hyS⟩ := h.row
  cases hu : f.up <;> simp only [WalkFsm.advance, hu, ← nextPair_eq]
  · by_cases hb : f.y < S - 1
    · simp [hb, show 0 ≤ f.y + 1 ∧ f.y + 1 < (S : Int) by omega]
    · simp [show f.y = S - 1 by omega]
  · by_cases hb : 0 < f.y
    · simp [hb, show 0 ≤ f.y - 1 ∧ f.y - 1 < (S : Int) by omega, -Int.sub_nonneg]
    · simp [show f.y = 0 by omega]

/-- The FSM keeps to its path while its loop runs. -/
theorem onPath_advance (hx : 1 ≤ f.xr) : (f.advance S).OnPath S := by
  have hrow := h.row
  have hpair := h.pair
  rcases advance_cases h with ⟨hu, hy, ha⟩ | ⟨hu, hy, ha⟩ | ⟨hu, hy, ha⟩ | ⟨hu, hy, ha⟩ <;> rw [ha]
  · exact ⟨by grind, hpair, by grind⟩
  · exact ⟨by grind, hpair, by grind⟩
  · exact ⟨hrow, by grind [nextPair], by grind [nextPair]⟩
  · exact ⟨hrow, by grind [nextPair], by grind [nextPair]⟩

/-- Ahead of the FSM lie its own row of the pair and what lies ahead after the move. -/
theorem ahead_iff (hx : 1 ≤ f.xr) (x y : Int) :
    f.Ahead S x y ↔ (x = f.xr ∧ y = f.y) ∨ (x = f.xr - 1 ∧ y = f.y) ∨ (f.advance S).Ahead S x y := by
  have hrow := h.row
  have hpair := h.pair
  rcases advance_cases h with ⟨hu, hy, ha⟩ | ⟨hu, hy, ha⟩ | ⟨hu, hy, ha⟩ | ⟨hu, hy, ha⟩ <;>
    simp only [ha, WalkFsm.Ahead, hu, nextPair] <;> grind

/-- A move leaves the row it was on behind. -/
theorem not_ahead_advance {x : Int} (hx : f.xr - 1 ≤ x) : ¬(f.advance S).Ahead S x f.y := by
  rcases advance_cases h with ⟨hu, hy, ha⟩ | ⟨hu, hy, ha⟩ | ⟨hu, hy, ha⟩ | ⟨hu, hy, ha⟩ <;>
    simp only [ha, WalkFsm.Ahead, hu, nextPair] <;> grind

theorem passBound_pos : 0 < f.passBound S := by
  have hrow := h.row
  have hrows : 0 < (if f.up then f.y + 1 else S - f.y).toNat := by split <;> omega
  exact Nat.add_pos_right _ hrows

/-- Every move leaves fewer passes. -/
theorem passBound_advance (hx : 1 ≤ f.xr) : (f.advance S).passBound S < f.passBound S := by
  have hrow := h.row
  rcases advance_cases h with ⟨hu, hy, ha⟩ | ⟨hu, hy, ha⟩ | hturn
  · simp only [ha, WalkFsm.passBound, hu]; grind
  · simp only [ha, WalkFsm.passBound, hu]; grind
  · have hxr : (f.advance S).xr = nextPair f.xr := by obtain ⟨-, -, ha⟩ | ⟨-, -, ha⟩ := hturn <;> rw [ha]
    have hcols : ((nextPair f.xr).toNat + 1) * S ≤ f.xr.toNat * S := Nat.mul_le_mul_right _ (by grind [nextPair])
    obtain ⟨hu, hy, ha⟩ | ⟨hu, hy, ha⟩ := hturn <;> simp only [ha, WalkFsm.passBound, hu] <;> grind

end

/-! ## The visit order -/

section
variable {S : Nat} {f : WalkFsm}

/-- The visit order from a position of the FSM. -/
def WalkFsm.visits (S : Nat) (fuel : Nat) (f : WalkFsm) : List (Int × Int) := visitsFrom S fuel f.xr f.y f.up

theorem visitOrder_eq (S : Nat) : visitOrder S = (WalkFsm.start S).visits S (S * S) := rfl

/-- The visit order follows the FSM's moves. -/
theorem visits_succ (fuel : Nat) : f.visits S (fuel + 1) =
    if 1 ≤ f.xr then (f.xr, f.y) :: (f.xr - 1, f.y) :: (f.advance S).visits S fuel else [] := by
  by_cases hx : 1 ≤ f.xr
  · rw [WalkFsm.visits, visitsFrom, if_neg (by omega), if_pos hx, WalkFsm.advance, ← nextPair_eq]
    generalize (if f.up then f.y - 1 else f.y + 1) = ny
    by_cases hny : 0 ≤ ny ∧ ny < S <;> simp only [hny, if_false, and_self, if_true, WalkFsm.visits, nextPair]
  · rw [WalkFsm.visits, visitsFrom, if_pos (by omega), if_neg hx]

theorem mem_visits {fuel : Nat} (h : f.OnPath S) (hfuel : f.passBound S ≤ fuel) {x y : Int} :
    (x, y) ∈ f.visits S fuel ↔ f.Ahead S x y := by
  induction fuel generalizing f with
  | zero => exact absurd hfuel (passBound_pos h).not_ge
  | succ fuel ih =>
    rw [visits_succ]
    split
    · next hx =>
      have hlt := passBound_advance h hx
      simp [ih (onPath_advance h hx) (by omega), ahead_iff h hx]
    · next hx =>
      have hpair := h.pair
      simp only [List.not_mem_nil, WalkFsm.Ahead, false_iff]
      omega

theorem nodup_visits {fuel : Nat} (h : f.OnPath S) (hfuel : f.passBound S ≤ fuel) : (f.visits S fuel).Nodup := by
  induction fuel generalizing f with
  | zero => exact List.nodup_nil
  | succ fuel ih =>
    rw [visits_succ]
    split
    · next hx =>
      have hlt := passBound_advance h hx
      have hmem (x : Int) := mem_visits (onPath_advance h hx) (x := x) (y := f.y) (show _ ≤ fuel by omega)
      have hne : (f.xr, f.y) ≠ (f.xr - 1, f.y) := by simp only [ne_eq, Prod.mk.injEq]; omega
      simp [ih (onPath_advance h hx) (by omega), hmem, not_ahead_advance h, -Prod.mk.injEq, hne]
    · exact List.nodup_nil

end

section
variable (v : Version)

theorem onPath_start : (WalkFsm.start v.size).OnPath v.size := by
  have := Version.size_bounds v
  have hmod : v.size % 4 = 1 := by simp only [Version.size]; omega
  simp only [WalkFsm.start]
  exact ⟨by simp; omega, .inl (by simp; omega), by simp⟩

theorem passBound_start : (WalkFsm.start v.size).passBound v.size = v.size * v.size := by
  have hpos : 0 < v.size := by have := Version.size_bounds v; omega
  obtain ⟨n, hn⟩ := Nat.exists_eq_succ_of_ne_zero hpos.ne'
  simp [WalkFsm.passBound, WalkFsm.start, hn]
  ring

theorem mem_visitOrder (x y : Int) :
    (x, y) ∈ visitOrder v.size ↔ 0 ≤ x ∧ x < v.size ∧ 0 ≤ y ∧ y < v.size ∧ x ≠ 6 := by
  rw [visitOrder_eq, mem_visits (onPath_start v) (passBound_start v).le]
  have := Version.size_bounds v
  simp only [WalkFsm.Ahead, WalkFsm.start]
  grind

theorem nodup_visitOrder : (visitOrder v.size).Nodup := nodup_visits (onPath_start v) (passBound_start v).le

/-- `S` modules in each of the columns but column 6 (R177). -/
theorem length_visitOrder : (visitOrder v.size).length = v.size * (v.size - 1) := by
  have hset : (visitOrder v.size).toFinset =
      (Finset.Ico (0 : Int) v.size).erase 6 ×ˢ Finset.Ico (0 : Int) v.size := by
    ext ⟨x, y⟩
    simp [mem_visitOrder]
    omega
  have := Version.size_bounds v
  have hsix : (6 : Int) ∈ Finset.Ico (0 : Int) v.size := by simp; omega
  rw [← List.toFinset_card_of_nodup (nodup_visitOrder v), hset, Finset.card_product, Finset.card_erase_of_mem hsix]
  simp [Nat.mul_comm]

end
/-! ## The run of the walk -/

section
variable {i : WalkInput} {r r' : WalkRun}

/-- What a walk leaves but for the FSM's position: the matrix, the count of modules written and the stream bit pointer. -/
def WalkRun.effect (r : WalkRun) : QrMatrix × Nat × Nat := (r.matrix, r.mods, r.fsm.bitptr)

theorem effect_eq_iff : r.effect = r'.effect ↔
    r.matrix = r'.matrix ∧ r.mods = r'.mods ∧ r.fsm.bitptr = r'.fsm.bitptr := by
  simp [WalkRun.effect]

/-- A visit does not depend on where the FSM stands. -/
theorem effect_visit (h : r.effect = r'.effect) (x y : Int) : (r.visit i x y).effect = (r'.visit i x y).effect := by
  obtain ⟨hq, hm, hb⟩ := effect_eq_iff.mp h
  simp only [WalkRun.visit, WalkRun.place, hq, hb]
  split
  · exact h
  · split
    · simp [WalkRun.effect, hm]
    · cases i.remainder
      · simp [WalkRun.effect, hm, hb]
      · exact h

theorem effect_visitAll (h : r.effect = r'.effect) (cs : List (Int × Int)) :
    (r.visitAll i cs).effect = (r'.visitAll i cs).effect := by
  induction cs generalizing r r' with
  | nil => exact h
  | cons c cs ih => exact ih (effect_visit h c.1 c.2)

/-- One row of a pair is its two visits (R171). -/
theorem effect_row (r : WalkRun) :
    (r.row i).effect = (r.visitAll i [(r.fsm.xr, r.fsm.y), (r.fsm.xr - 1, r.fsm.y)]).effect := by
  have hptr (S : Int) (f : WalkFsm) : (f.advance S).bitptr = f.bitptr := by
    simp [WalkFsm.advance, apply_ite WalkFsm.bitptr]
  let r1 := r.visit i r.fsm.xr r.fsm.y
  calc (r.row i).effect
    _ = (r1.left.visit i (r.fsm.xr - 1) r.fsm.y).effect := by simp [r1, WalkRun.row, WalkRun.effect, hptr]
    _ = (r1.visit i (r.fsm.xr - 1) r.fsm.y).effect := effect_visit (r := r1.left) (r' := r1) rfl _ _

/-- The loop's effect is that of its visits. -/
theorem effect_loop (fuel : Nat) (r : WalkRun) :
    (WalkRun.loop i fuel r).effect = (r.visitAll i (r.visited i fuel)).effect := by
  induction fuel generalizing r with
  | zero => rfl
  | succ fuel ih =>
    rw [WalkRun.loop, WalkRun.visited]
    split
    · exact (ih (r.row i)).trans (effect_visitAll (effect_row r) _)
    · rfl

/-- Two positions of the FSM are one, whatever its column selector and its stream bit pointer. -/
def WalkFsm.SamePosition (f g : WalkFsm) : Prop := f.xr = g.xr ∧ f.y = g.y ∧ f.up = g.up

theorem WalkFsm.SamePosition.onPath {f g : WalkFsm} {S : Nat} (h : f.SamePosition g) (hg : g.OnPath S) : f.OnPath S := by
  obtain ⟨hx, hy, hu⟩ := h
  exact ⟨hy ▸ hg.row, by rw [hx, hu]; exact hg.pair, by rw [hx, hy]; exact hg.last⟩

theorem WalkFsm.SamePosition.passBound {f g : WalkFsm} {S : Nat} (h : f.SamePosition g) :
    f.passBound S = g.passBound S := by
  obtain ⟨hx, hy, hu⟩ := h
  rw [WalkFsm.passBound, hx, hy, hu, WalkFsm.passBound]

theorem WalkFsm.SamePosition.visits {f g : WalkFsm} {S : Nat} (h : f.SamePosition g) (fuel : Nat) :
    f.visits S fuel = g.visits S fuel := by
  obtain ⟨hx, hy, hu⟩ := h
  rw [WalkFsm.visits, hx, hy, hu, WalkFsm.visits]

theorem samePosition_row (r : WalkRun) : (r.row i).fsm.SamePosition (r.fsm.advance r.matrix.size) := row_position i r

/-- The coordinates at which the machine's FSM stands are the visit order from its position. -/
theorem visited_eq (fuel : Nat) (r : WalkRun) : r.visited i fuel = r.fsm.visits r.matrix.size fuel := by
  induction fuel generalizing r with
  | zero => rfl
  | succ fuel ih =>
    rw [WalkRun.visited, visits_succ, ih, row_size, (samePosition_row r).visits]

/-- The loop ends left of column 0, in the last row, upwards (R177). -/
theorem loop_position {fuel : Nat} (h : r.fsm.OnPath r.matrix.size) (hfuel : r.fsm.passBound r.matrix.size ≤ fuel) :
    (WalkRun.loop i fuel r).fsm.xr = -1 ∧ (WalkRun.loop i fuel r).fsm.y = r.matrix.size - 1 ∧
      (WalkRun.loop i fuel r).fsm.up = true := by
  induction fuel generalizing r with
  | zero => exact absurd hfuel (passBound_pos h).not_ge
  | succ fuel ih =>
    rw [WalkRun.loop]
    split
    · next hx =>
      have hpos := samePosition_row (i := i) r
      have hlt := passBound_advance h hx
      rw [← row_size i r]
      refine ih ?_ ?_ <;> rw [row_size]
      · exact hpos.onPath (onPath_advance h hx)
      · rw [hpos.passBound]; omega
    · next hx =>
      have hpair := h.pair
      have hend : r.fsm.xr = -1 := by omega
      exact ⟨hend, h.last hend, by rw [hend] at hpair; simpa using hpair⟩

end

section
variable (i : WalkInput) (q : QrMatrix)

/-- The machine's walk passes the coordinates of the visit order. -/
theorem visited_start : (WalkRun.start q).visited i (q.size * q.size) = visitOrder q.size := visited_eq _ _

theorem effect_runWalk : (runWalk i q).effect = ((WalkRun.start q).visitAll i (visitOrder q.size)).effect := by
  rw [← visited_start i q]
  exact effect_loop _ _

theorem runWalk_position :
    (runWalk i q).fsm.xr = -1 ∧ (runWalk i q).fsm.y = q.size - 1 ∧ (runWalk i q).fsm.up = true :=
  loop_position (r := WalkRun.start q) (onPath_start q.version) (passBound_start q.version).le

/-- Settles O55: the FSM moves along the visit order whatever the matrix, and from each position on its path the visits to
come are the coordinates ahead, each once. -/
theorem walkVisitsEachModuleOnce : Obligations.WalkVisitsEachModuleOnce := by
  intro i q
  obtain ⟨hmatrix, hmods, hptr⟩ := effect_eq_iff.mp (effect_runWalk i q)
  dsimp only
  rw [visited_start]
  exact ⟨rfl, length_visitOrder _, nodup_visitOrder _, mem_visitOrder _, hmatrix, hmods, hptr, runWalk_position i q⟩

end

end Sys2Proof.Machine

/-! PROOF. The effect of WALK: the stream bits in the non-functional modules in visit order, and the counts and the end
position in the WALK registers (44_walk.md R171 to R178). -/

namespace Sys2Proof.Machine

/-! ## The places of the stream -/

section
variable {i : WalkInput} {r : WalkRun} {x y : Int}

/-- What the walk makes of a module of `q` that it visits as number `k` of the non-functional ones (R175, R176). -/
def placedModule (i : WalkInput) (q : QrMatrix) (k : Nat) (x y : Int) : Option QrModule :=
  if k < 8 * i.stream.length then
    some { value := xor (streamBit i.stream k) (maskP i.mask x.toNat y.toNat), functional := false }
  else
    match i.remainder with
    | .maskedZero => some { value := maskP i.mask x.toNat y.toNat, functional := false }
    | .leave => q.get x y

theorem visit_get_self (hin : r.matrix.inb x y = true) (hf : r.matrix.isFunc x y = false) :
    (r.visit i x y).matrix.get x y = placedModule i r.matrix r.fsm.bitptr x y := by
  rcases visit_cases i r x y with ⟨hf', -⟩ | ⟨-, hb, hv⟩ | ⟨-, hb, hr, hv⟩ | ⟨-, hb, hr, hv⟩
  · simp [hf] at hf'
  · simp [hv, placedModule, get_put, hin, hb]
  · simp [hv, placedModule, hr, hb.not_gt]
  · simp [hv, placedModule, get_put, hin, hr, hb.not_gt]

theorem visit_bitptr (hf : r.matrix.isFunc x y = false) (hb : r.fsm.bitptr ≤ 8 * i.stream.length) :
    (r.visit i x y).fsm.bitptr = min (8 * i.stream.length) (r.fsm.bitptr + 1) := by
  rcases visit_cases i r x y with ⟨hf', -⟩ | ⟨-, hb', hv⟩ | ⟨-, hb', -, hv⟩ | ⟨-, hb', -, hv⟩
  · simp [hf] at hf'
  all_goals simp only [hv]; omega

theorem visit_mods (hf : r.matrix.isFunc x y = false) : (r.visit i x y).mods =
    r.mods + if i.remainder = .maskedZero ∨ r.fsm.bitptr < 8 * i.stream.length then 1 else 0 := by
  rcases visit_cases i r x y with ⟨hf', -⟩ | ⟨-, hb, hv⟩ | ⟨-, hb, hr, hv⟩ | ⟨-, hb, hr, hv⟩
  · simp [hf] at hf'
  · simp [hv, hb]
  · simp [hv, hb.not_gt, hr]
  · simp [hv, hr]

/-- Visits change no module but their own. -/
theorem visitAll_get_other {cs : List (Int × Int)} (h : (x, y) ∉ cs) :
    (r.visitAll i cs).matrix.get x y = r.matrix.get x y := by
  induction cs generalizing r with
  | nil => rfl
  | cons c cs ih =>
    obtain ⟨hc, hcs⟩ := not_or.mp (List.mem_cons.not.mp h)
    exact (ih hcs).trans (visit_get_other i r c.1 c.2 fun hxy => hc (Prod.ext hxy.1 hxy.2))

/-- Visits at functional modules do nothing. -/
theorem visitAll_filter (cs : List (Int × Int)) :
    r.visitAll i (cs.filter fun c => !(r.matrix.isFunc c.1 c.2)) = r.visitAll i cs := by
  induction cs generalizing r with
  | nil => rfl
  | cons c cs ih =>
    rw [visitAll_cons, ← ih]
    simp only [visit_isFunc]
    cases hf : r.matrix.isFunc c.1 c.2
    · rw [List.filter_cons_of_pos (by simp [hf]), visitAll_cons]
    · rw [List.filter_cons_of_neg (by simp [hf])]
      simp [WalkRun.visit, hf]

/-- These are modules of the matrix, and none of them is functional. -/
def QrMatrix.Placeable (q : QrMatrix) (cs : List (Int × Int)) : Prop :=
  ∀ c ∈ cs, q.inb c.1 c.2 = true ∧ q.isFunc c.1 c.2 = false

theorem placeable_cons_visit {c : Int × Int} {cs : List (Int × Int)} (h : r.matrix.Placeable (c :: cs)) :
    (r.visit i c.1 c.2).matrix.Placeable cs := fun d hd => by
  obtain ⟨hin, hf⟩ := h d (List.mem_cons_of_mem _ hd)
  exact ⟨by rw [(sameTail_visit i r _ _).inb, hin], by rw [visit_isFunc, hf]⟩

/-- The stream bit pointer moves with each non-functional module, up to the stream's end. -/
theorem visitAll_bitptr {cs : List (Int × Int)} (h : r.matrix.Placeable cs) (hb : r.fsm.bitptr ≤ 8 * i.stream.length) :
    (r.visitAll i cs).fsm.bitptr = min (8 * i.stream.length) (r.fsm.bitptr + cs.length) := by
  induction cs generalizing r with
  | nil => simp [hb]
  | cons c cs ih =>
    have hptr := visit_bitptr (i := i) (h c List.mem_cons_self).2 hb
    rw [visitAll_cons, ih (placeable_cons_visit h) (by omega), hptr, List.length_cons]
    omega

/-- The modules written: every non-functional one, or with `LEAVE` those that get a stream bit (R176). -/
theorem visitAll_mods {cs : List (Int × Int)} (h : r.matrix.Placeable cs) (hb : r.fsm.bitptr ≤ 8 * i.stream.length) :
    (r.visitAll i cs).mods = r.mods +
      match i.remainder with
      | .maskedZero => cs.length
      | .leave => min (8 * i.stream.length - r.fsm.bitptr) cs.length := by
  induction cs generalizing r with
  | nil => cases i.remainder <;> simp
  | cons c cs ih =>
    have hf := (h c List.mem_cons_self).2
    have hptr := visit_bitptr (i := i) hf hb
    rw [visitAll_cons, ih (placeable_cons_visit h) (by omega), hptr, visit_mods hf, List.length_cons]
    cases i.remainder <;> simp only [reduceCtorEq, true_or, false_or, if_true]
    · omega
    · split <;> omega

/-- The module visited as number `j` gets the stream bit `j` places on, or what a remainder module gets. -/
theorem visitAll_get {cs : List (Int × Int)} (h : r.matrix.Placeable cs) (hnd : cs.Nodup)
    (hb : r.fsm.bitptr ≤ 8 * i.stream.length) {j : Nat} (hj : cs[j]? = some (x, y)) :
    (r.visitAll i cs).matrix.get x y = placedModule i r.matrix (r.fsm.bitptr + j) x y := by
  induction cs generalizing r j with
  | nil => simp at hj
  | cons c cs ih =>
    obtain ⟨hc, hnd⟩ := List.nodup_cons.mp hnd
    obtain ⟨hin, hf⟩ := h c List.mem_cons_self
    rw [visitAll_cons]
    cases j with
    | zero =>
      obtain rfl : c = (x, y) := by simpa using hj
      rw [visitAll_get_other hc, visit_get_self hin hf, Nat.add_zero]
    | succ j =>
      have hj : cs[j]? = some (x, y) := by simpa using hj
      have hne : ¬(x = c.1 ∧ y = c.2) := fun hxy => hc (by
        rw [show c = (x, y) from Prod.ext hxy.1.symm hxy.2.symm]; exact List.mem_of_getElem? hj)
      have hptr := visit_bitptr (i := i) hf hb
      rw [ih (placeable_cons_visit h) hnd (by omega) hj, placedModule, placedModule, visit_get_other i r _ _ hne]
      by_cases hlt : r.fsm.bitptr < 8 * i.stream.length
      · rw [hptr, show min (8 * i.stream.length) (r.fsm.bitptr + 1) + j = r.fsm.bitptr + (j + 1) by omega]
      · rw [if_neg (by omega), if_neg (by omega)]

end

section
variable (i : WalkInput) (q : QrMatrix)

theorem placeable_dataModules : q.Placeable q.dataModules := fun c hc => by
  obtain ⟨hmem, hf⟩ := List.mem_filter.mp hc
  have hin := (mem_visitOrder q.version c.1 c.2).mp hmem
  exact ⟨(inb_iff q _ _).mpr (by have : q.size = q.version.size := rfl; omega), by simpa using hf⟩

theorem nodup_dataModules : q.dataModules.Nodup := (nodup_visitOrder q.version).filter _

theorem length_dataModules_le : q.dataModules.length ≤ 31329 :=
  calc q.dataModules.length
    _ ≤ (visitOrder q.size).length := List.length_filter_le _ _
    _ = q.size * (q.size - 1) := length_visitOrder q.version
    _ ≤ q.size * q.size := Nat.mul_le_mul_left _ (Nat.sub_le _ _)
    _ ≤ 31329 := size_sq_le q

/-- A walk has the effect of its visits at the non-functional modules. -/
theorem effect_runWalk_dataModules :
    (runWalk i q).effect = ((WalkRun.start q).visitAll i q.dataModules).effect := by
  rw [effect_runWalk, QrMatrix.dataModules]
  exact congrArg WalkRun.effect (visitAll_filter (r := WalkRun.start q) _).symm

theorem runWalk_bitptr : (runWalk i q).fsm.bitptr = min (8 * i.stream.length) q.dataModules.length := by
  rw [(effect_eq_iff.mp (effect_runWalk_dataModules i q)).2.2]
  simpa [WalkRun.start, WalkFsm.start] using
    visitAll_bitptr (i := i) (r := WalkRun.start q) (placeable_dataModules q) (Nat.zero_le _)

theorem runWalk_mods : (runWalk i q).mods =
    match i.remainder with
    | .maskedZero => q.dataModules.length
    | .leave => min (8 * i.stream.length) q.dataModules.length := by
  rw [(effect_eq_iff.mp (effect_runWalk_dataModules i q)).2.1]
  simpa [WalkRun.start, WalkFsm.start] using
    visitAll_mods (i := i) (r := WalkRun.start q) (placeable_dataModules q) (Nat.zero_le _)

/-- A walk places the stream bits in the non-functional modules, in visit order (R173 to R176). -/
theorem runWalk_get_dataModule {j : Nat} {x y : Int} (hj : q.dataModules[j]? = some (x, y)) :
    (runWalk i q).matrix.get x y = placedModule i q j x y := by
  rw [(effect_eq_iff.mp (effect_runWalk_dataModules i q)).1]
  simpa [WalkRun.start, WalkFsm.start] using
    visitAll_get (i := i) (r := WalkRun.start q) (placeable_dataModules q) (nodup_dataModules q) (Nat.zero_le _) hj

theorem runWalk_get_other {x y : Int} (h : (x, y) ∉ q.dataModules) : (runWalk i q).matrix.get x y = q.get x y := by
  rw [(effect_eq_iff.mp (effect_runWalk_dataModules i q)).1]
  exact visitAll_get_other h

end

/-! ## WALK -/

theorem legalMask_eq_some {c : Cfg} {m : Fin 8} : c.legalMask = some m ↔ c.mask.toNat = m.val := by
  simp only [Cfg.legalMask, Option.dite_none_right_eq_some, Option.some.injEq, Fin.ext_iff]
  exact ⟨fun ⟨_, h⟩ => h, fun h => ⟨h ▸ m.isLt, h⟩⟩

/-- `WALK_POS` at the end of a walk, as the host reads it (R38, R177). -/
theorem registerValue_of_walkPos {s : State} (v : Version)
    (h : s.walkPos = ⟨BitVec.ofInt 9 (-1), BitVec.ofInt 8 (v.size - 1), true, true⟩) :
    registerValue s 0x48 = 0x03000000 + (v.size - 1) * 2 ^ 16 + 0x1FF := by
  have hS := Version.size_bounds v
  have hxr : (BitVec.ofInt 9 (-1)).toNat = 0x1FF := by decide
  have hy : (BitVec.ofInt 8 ((v.size : Int) - 1)).toNat = v.size - 1 := by rw [BitVec.toNat_ofInt]; omega
  simp only [registerValue, h, hxr, hy, Bool.toNat_true]
  omega

section
variable {s : State} {m : Fin 8} {q : QrMatrix}

/-- The stream that WALK reads is the codewords of `STREAM` (R173). -/
theorem streamBit_walkInput {j : Nat} (hj : j < 8 * s.streamLen.toNat) :
    streamBit (s.walkInput m).stream j = streamBitAt s j := by
  have hlt : j / 8 < s.streamLen.toNat := by omega
  simp [streamBit, streamBitAt, State.walkInput, State.loadBytes, List.getD, hlt, streamBase]

theorem length_walkInput_stream : (s.walkInput m).stream.length = s.streamLen.toNat := loadBytes_length _ _ _

theorem walkEffect_walkPos :
    (s.walkEffect m q).walkPos = ⟨BitVec.ofInt 9 (-1), BitVec.ofInt 8 (q.size - 1), true, true⟩ := by
  obtain ⟨hxr, hy, hup⟩ := runWalk_position (s.walkInput m) q
  simp [State.walkEffect, WalkFsm.pos, hxr, hy, hup]

theorem walkEffect_walkCount (hlen : s.streamLen.toNat ≤ 4096) :
    (s.walkEffect m q).walkCount.toNat = min (8 * s.streamLen.toNat) q.dataModules.length := by
  have hcount : (s.walkEffect m q).walkCount = BitVec.ofNat 16 (runWalk (s.walkInput m) q).fsm.bitptr := rfl
  rw [hcount, runWalk_bitptr, length_walkInput_stream, BitVec.toNat_ofNat]
  omega

theorem walkEffect_walkMods :
    (s.walkEffect m q).walkMods.toNat =
      match s.params.remainder with
      | .maskedZero => q.dataModules.length
      | .leave => min (8 * s.streamLen.toNat) q.dataModules.length := by
  have hmods : (s.walkEffect m q).walkMods = BitVec.ofNat 16 (runWalk (s.walkInput m) q).mods := rfl
  have hrem : (s.walkInput m).remainder = s.params.remainder := rfl
  have hplaces := length_dataModules_le q
  rw [hmods, runWalk_mods, length_walkInput_stream, hrem, BitVec.toNat_ofNat]
  cases s.params.remainder <;> dsimp only <;> omega

/-- The `j`-th non-functional module after WALK (R173 to R176). -/
theorem placedModule_walkInput (j : Nat) (x y : Int) : placedModule (s.walkInput m) q j x y =
    if j < 8 * s.streamLen.toNat then
      some { value := xor (streamBitAt s j) (maskP m x.toNat y.toNat), functional := false }
    else
      match s.params.remainder with
      | .maskedZero => some { value := maskP m x.toNat y.toNat, functional := false }
      | .leave => q.get x y := by
  rw [placedModule, length_walkInput_stream]
  split
  · next hj => rw [streamBit_walkInput hj]; rfl
  · rfl

/-- With a legal mask and stream length, WALK makes its effect. -/
theorem exec_walk (hq : s.matrix = some q) (hm : s.cfg.mask.toNat = m.val) (hlen : s.streamLen.toNat ≤ 4096) :
    exec .walk s = .next (s.walkEffect m q).complete :=
  exec_of_commandBody_ok (walkBody_ok.mpr ⟨m, q, legalMask_eq_some.mpr hm, hq, hlen, rfl⟩)

end

/-- Settles O56: WALK's effect is that of its visits at the non-functional modules, and each of these is visited once. -/
theorem walkResult : Obligations.WalkResult := fun s q m hq hm hlen =>
  ⟨(s.walkEffect m q).complete, (runWalk (s.walkInput m) q).matrix, exec_walk hq hm hlen, rfl,
    walkEffect_walkCount hlen, walkEffect_walkMods, registerValue_of_walkPos q.version walkEffect_walkPos,
    sameTail_runWalk _ q,
    fun j x y hj => (runWalk_get_dataModule _ q hj).trans (placedModule_walkInput j x y),
    fun _ _ h => runWalk_get_other _ q h⟩

end Sys2Proof.Machine

/-! PROOF. The format and version information: PAINT_FORMAT and PAINT_VERSION write their words to the cells that
RESERVE_FORMAT and RESERVE_VERSION keep for them, and to no other module (45_info.md R190 to R193). -/

namespace Sys2Proof.Machine

/-- A command that completes on a painting of the matrix paints exactly that (R150). PAINT_FORMAT is no `IsPainter`: what it
paints depends on CFG also. -/
theorem Painted.paintsExactly {i : Instr} {s : State} {q q' : QrMatrix} {e : Engine} {paint : Int → Int → Option Bool}
    (h : Painted q q' paint) (hexec : exec i s = .next (s.painted q' e)) : PaintsExactly i s q paint := by
  obtain ⟨htail, hget⟩ := h
  refine ⟨q', e, hexec, htail, fun x y => ?_⟩
  by_cases hin : q.inb x y = true
  · rw [if_pos hin]
    cases hp : paint x y with
    | some v => exact (hget x y hin).1 v hp
    | none => exact (hget x y hin).2 hp
  · rw [if_neg hin, get_of_not_inb (by rwa [htail.inb])]

/-! ## PAINT_FORMAT -/

/-- What one of two lists of one length holds at a place stands in one of the two entries they have there. -/
theorem exists_getElem?_pair {α : Type} {l l' : List α} (hlen : l.length = l'.length) {k : Nat} {a : α}
    (h : l[k]? = some a ∨ l'[k]? = some a) : ∃ c d, (l[k]? = some c ∧ l'[k]? = some d) ∧ (c = a ∨ d = a) := by
  have hk : k < l.length := by
    rcases h with h | h
    · exact (List.getElem?_eq_some_iff.mp h).1
    · exact hlen ▸ (List.getElem?_eq_some_iff.mp h).1
  have hc := List.getElem?_eq_getElem hk
  have hd := List.getElem?_eq_getElem (hlen ▸ hk)
  exact ⟨_, _, ⟨hc, hd⟩, by simpa [hc, hd] using h⟩

/-- The strokes of PAINT_FORMAT are bit `14 − k` of the word at cell `k` of each copy (R190, R191). -/
theorem mem_formatStrokes {S x y : Int} {w : BitVec 15} {v : Bool} : ⟨x, y, v⟩ ∈ formatStrokes S w ↔
    ∃ k, (formatCells1[k]? = some (x, y) ∨ (formatCells2 S)[k]? = some (x, y)) ∧ w.getLsbD (14 - k) = v := by
  have hlen : formatCells1.length = (formatCells2 S).length := rfl
  simp only [formatStrokes, List.mem_flatMap, Prod.exists, List.mk_mem_zipIdx_iff_getElem?, List.getElem?_zip_eq_some,
    List.mem_cons, List.not_mem_nil, or_false, Stroke.mk.injEq]
  constructor
  · rintro ⟨_, _, _, _, k, ⟨hc, hd⟩, ⟨rfl, rfl, rfl⟩ | ⟨rfl, rfl, rfl⟩⟩
    · exact ⟨k, .inl hc, rfl⟩
    · exact ⟨k, .inr hd, rfl⟩
  · rintro ⟨k, h, rfl⟩
    obtain ⟨c, d, hcd, rfl | rfl⟩ := exists_getElem?_pair hlen h
    · exact ⟨x, y, d.1, d.2, k, hcd, .inl ⟨rfl, rfl, rfl⟩⟩
    · exact ⟨c.1, c.2, x, y, k, hcd, .inr ⟨rfl, rfl, rfl⟩⟩

theorem painted_paintFormat (e : EcLevel) (m : Fin 8) (q : QrMatrix) : Painted q (paintFormat e m q)
    (fun x y => (formatCellIndex q.size x y).map (fun k => (fmtWord e m).getLsbD (14 - k))) := by
  refine painted_paint fun x y v _ => ?_
  simp only [Option.map_eq_some_iff, formatCellIndex_eq_some (size_ge q), mem_formatStrokes]

/-- With a legal mask and a matrix, PAINT_FORMAT completes on the matrix it paints (R190). -/
theorem exec_paintFormat {s : State} {q : QrMatrix} {m : Fin 8} (hm : s.cfg.mask.toNat = m.val) (hq : s.matrix = some q) :
    ∃ e, exec .paintFormat s = .next (s.painted (paintFormat s.cfg.level m q) e) :=
  ⟨_, exec_of_commandBody_ok (paintFormatBody_ok.mpr ⟨m, q, legalMask_eq_some.mpr hm, hq, rfl⟩)⟩

/-- The format word of CFG is the ROM's entry at `ECL·8 + MASK` (R56, R190). -/
theorem fmtWord_level (c : Cfg) (m : Fin 8) : fmtWord c.level m = fmtRom.getD (c.ecl.toNat * 8 + m.val) 0 := by
  rw [fmtWord, Cfg.level, levelOf_ordinal]

/-- Settles O51: the index of a format cell is its place in a copy, and the strokes write that bit there. -/
theorem paintFormatResult : Obligations.PaintFormatResult := by
  intro s q hq hmask
  obtain ⟨m, hm⟩ : ∃ m : Fin 8, s.cfg.mask.toNat = m.val := ⟨⟨s.cfg.mask.toNat, by omega⟩, rfl⟩
  obtain ⟨e, hexec⟩ := exec_paintFormat hm hq
  have hpainted := painted_paintFormat s.cfg.level m q
  rw [fmtWord_level, ← hm] at hpainted
  exact hpainted.paintsExactly hexec

/-! ## PAINT_VERSION -/

theorem isPainter_paintVersion : IsPainter .paintVersion paintVersion := ⟨_, fun _ => rfl⟩

theorem painted_paintVersion (q : QrMatrix) : Painted q (paintVersion q) (fun x y =>
    if 7 ≤ q.version.num then (versionCellIndex q.size x y).map (fun i => (verWord q.version.num).getLsbD i)
    else none) := by
  unfold paintVersion
  split
  · exact painted_versionStrokes q _
  · exact Painted.refl q

/-- Settles O52: the strokes are those of the matrix's own version word, which PAINT_VERSION reads from the ROM. -/
theorem paintVersionResult : Obligations.PaintVersionResult :=
  fun _ q hq => isPainter_paintVersion.paintsExactly hq (painted_paintVersion q)

end Sys2Proof.Machine

/-! PROOF. NOP and GENERATE: GENERATE is EC_PIPELINE and then the drawing of a symbol of the codewords in `STREAM`
(46_control.md R200 to R204). -/

namespace Sys2Proof.Machine

/-! ## NOP -/

/-- Settles O31: NOP's body is the state itself, so its completion is all it does. -/
theorem nopDoesNothing : Obligations.NopDoesNothing := fun s =>
  exec_of_commandBody_ok (i := .nop) (t := s) rfl

/-! ## GENERATE's phases -/

/-- The matrix that GENERATE's walk leaves in a state whose `STREAM` holds the codewords: phases 2 to 4 (R202). -/
def State.walkedMatrix (s : State) (v : Version) (m : Fin 8) : QrMatrix :=
  (runWalk (s.walkInput m) (paintFunctional (QrMatrix.new v))).matrix

/-- The matrix that GENERATE draws in such a state: phases 2 to 6 (R202). -/
def State.symbolMatrix (s : State) (v : Version) (m : Fin 8) : QrMatrix :=
  paintVersion (paintFormat s.cfg.level m (s.walkedMatrix v m))

/-- What such a state `s` becomes when GENERATE completes and leaves the engine state `e`: its phases 2 to 6 write the WALK
registers and the matrix (R202). -/
def State.drawn (s : State) (v : Version) (m : Fin 8) (e : Engine) : State :=
  (((s.walkEffect m (paintFunctional (QrMatrix.new v))).withMatrix (some (s.symbolMatrix v m))).withEngine e).complete

section
variable (s : State) (m : Fin 8)

/-! A walk reads the byte memories, STREAM_LEN and `P_REMAINDER`, and neither the matrix nor the engine's state (R171). -/

theorem withEngine_walkInput (e : Engine) : (s.withEngine e).walkInput m = s.walkInput m := rfl
theorem withMatrix_walkInput (q : Option QrMatrix) : (s.withMatrix q).walkInput m = s.walkInput m := rfl
theorem complete_walkInput : s.complete.walkInput m = s.walkInput m := rfl
theorem matNewEffect_walkInput (v : Version) : (s.matNewEffect v).walkInput m = s.walkInput m := rfl
theorem painted_walkInput (q : QrMatrix) (e : Engine) : (s.painted q e).walkInput m = s.walkInput m := rfl

end

theorem withEngine_storeEcBlocks (s : State) (e : Engine) (ec t : Nat) (blocks : List (List Byte)) :
    (s.withEngine e).storeEcBlocks ec t blocks = (s.storeEcBlocks ec t blocks).withEngine e := by
  induction blocks generalizing s t with
  | nil => rfl
  | cons blk rest ih => exact ih (s.storeBytes (ecbufBase + t * ec) blk) (t + 1)

/-- EC_PIPELINE reads nothing of the engine's state. -/
theorem withEngine_ecPipelineEffect (s : State) (e : Engine) (b : BlockSpec) :
    ∃ e', (s.withEngine e).ecPipelineEffect b = (s.ecPipelineEffect b).withEngine e' := by
  simp only [State.ecPipelineEffect, withEngine_storeEcBlocks]
  exact ⟨_, rfl⟩

section
variable (s : State) (v : Version) (m : Fin 8) (e : Engine)

@[simp] theorem drawn_status : (s.drawn v m e).status = doneStatus s.status := rfl
@[simp] theorem drawn_matrix : (s.drawn v m e).matrix = some (s.symbolMatrix v m) := rfl
@[simp] theorem drawn_streamLen : (s.drawn v m e).streamLen = s.streamLen := rfl
@[simp] theorem drawn_memByte (a : Nat) : (s.drawn v m e).memByte a = s.memByte a := rfl

@[simp] theorem drawn_streamBitAt (j : Nat) : streamBitAt (s.drawn v m e) j = streamBitAt s j := by
  rw [streamBitAt, streamBitAt, drawn_memByte]

theorem drawn_walkRegisters :
    let t := s.walkEffect m (paintFunctional (QrMatrix.new v))
    (s.drawn v m e).walkCount = t.walkCount ∧ (s.drawn v m e).walkMods = t.walkMods ∧
      (s.drawn v m e).walkPos = t.walkPos := ⟨rfl, rfl, rfl⟩

theorem complete_drawn : s.complete.drawn v m e = s.drawn v m e := by
  simp only [State.drawn, State.symbolMatrix, State.walkedMatrix, State.walkEffect, complete_walkInput, State.complete_cfg]
  rfl

end

/-- GENERATE is EC_PIPELINE and then the drawing of the symbol: its phases hand on nothing in the engine's state. -/
theorem generateEffect_eq (s : State) (v : Version) (b : BlockSpec) (m : Fin 8) :
    ∃ e, (s.generateEffect v b m).complete = (s.ecPipelineEffect b).drawn v m e := by
  obtain ⟨e, he⟩ : ∃ e, (s.enterPhase .ec).ecPipelineEffect b = (s.ecPipelineEffect b).withEngine e :=
    withEngine_ecPipelineEffect s _ b
  rw [State.generateEffect, State.generatePrepare, he]
  generalize s.ecPipelineEffect b = u
  simp only [State.generateFinish, State.drawn, State.symbolMatrix, State.walkedMatrix, State.enterPhase,
    State.walkEffect, State.paintEffect, State.matNewEffect, withEngine_walkInput, withMatrix_walkInput,
    withEngine_withMatrix, withEngine_withWalk, withEngine_withEngine, withWalk_withMatrix, withMatrix_withMatrix]
  exact ⟨_, rfl⟩

theorem exists_mask_of_le {c : Cfg} (h : c.mask.toNat ≤ 7) : ∃ m : Fin 8, c.mask.toNat = m.val :=
  ⟨⟨c.mask.toNat, Nat.lt_succ_of_le h⟩, rfl⟩

section
variable {s : State} {v : Version} {m : Fin 8}

/-- With its checks passed, GENERATE completes with the symbol drawn (R201, R202). -/
theorem exec_generate {b : BlockSpec} (hv : s.cfg.version.toNat = v.num) (hm : s.cfg.mask.toNat = m.val)
    (hb : blockSpec v s.cfg.level = b) (hlen : s.dataLen.toNat = b.dataTotal) :
    ∃ e, exec .generate s = .next ((s.ecPipelineEffect b).drawn v m e) := by
  subst hb
  have hversion : s.cfg.legalVersion = some v := versionOf_eq_some.mpr ⟨hv.symm, hv ▸ Nat.succ_ne_zero _⟩
  obtain ⟨e, he⟩ := generateEffect_eq s v (blockSpec v s.cfg.level) m
  have hbody := generateBody_ok.mpr ⟨v, m, hversion, legalMask_eq_some.mpr hm, hlen, rfl⟩
  exact ⟨e, he ▸ exec_of_commandBody_ok (i := .generate) hbody⟩

/-- PAINT_FORMAT and PAINT_VERSION one after the other, on the matrix held (R190, R192). -/
theorem runCommands_paintInfo {q : QrMatrix} (hm : s.cfg.mask.toNat = m.val) (hq : s.matrix = some q) :
    ∃ e, runCommands [.paintFormat, .paintVersion] s =
      .next (s.painted (paintVersion (paintFormat s.cfg.level m q)) e) := by
  obtain ⟨e, hformat⟩ := exec_paintFormat hm hq
  obtain ⟨e', hversion⟩ := isPainter_paintVersion.exec (s := s.painted (paintFormat s.cfg.level m q) e) rfl
  rw [painted_painted] at hversion
  exact ⟨e', (runCommands_cons hformat).trans (runCommands_cons hversion)⟩

/-- The commands after EC_PIPELINE draw the symbol of the codewords that it left (R202). -/
theorem runCommands_drawn (hv : s.cfg.version.toNat = v.num) (hm : s.cfg.mask.toNat = m.val)
    (hlen : s.streamLen.toNat ≤ 4096) :
    ∃ e, runCommands [.matNew, .paintFunctional, .walk, .paintFormat, .paintVersion] s =
      .next (s.drawn v m e) := by
  have hnew := exec_of_commandBody_ok (commandBody_matNew hv)
  obtain ⟨e, hpaint⟩ := isPainter_paintFunctional.exec (s := (s.matNewEffect v).complete) rfl
  have hwalk := exec_walk (s := (s.matNewEffect v).complete.painted (paintFunctional (QrMatrix.new v)) e) rfl hm hlen
  obtain ⟨e', hinfo⟩ :=
    runCommands_paintInfo (s := (((s.matNewEffect v).complete.painted _ e).walkEffect m _).complete) hm rfl
  refine ⟨e', ?_⟩
  rw [runCommands_cons hnew, runCommands_cons hpaint, runCommands_cons hwalk, hinfo]
  simp only [State.drawn, State.symbolMatrix, State.walkedMatrix, State.walkEffect, painted_walkInput, complete_walkInput,
    matNewEffect_walkInput]
  generalize runWalk (s.walkInput m) (paintFunctional (QrMatrix.new v)) = r
  rfl

end

/-! ## The block structure of a symbol -/

/-- What the operations on codewords need of a block structure: an EC length that has a generator, and as many codewords as
`STREAM` has bytes at most (R55, R133). -/
structure BlockSpec.Encodable (b : BlockSpec) : Prop where
  ec_pos : 1 ≤ b.ec
  ec_le : b.ec ≤ 68
  total_le : b.totalCw ≤ 4096

theorem BlockSpec.Encodable.streamLen {b : BlockSpec} (hb : b.Encodable) (s : State) :
    (s.ecPipelineEffect b).streamLen.toNat = b.totalCw := ecPipelineEffect_streamLen s hb.ec_pos hb.ec_le hb.total_le

theorem encodable_blockSpec (v : Version) (e : EcLevel) : (blockSpec v e).Encodable := by
  obtain ⟨-, h7, h30, -⟩ := blockSpec_rules v e
  exact ⟨Nat.le_trans (by decide) h7, Nat.le_trans h30 (by decide), Nat.le_trans (blockSpec_totalCw_le v e) (by decide)⟩

section
variable {s : State} {b : BlockSpec}

/-- EC_PIPELINE leaves what the rest of GENERATE reads but does not write (R135). -/
theorem ecPipelineEffect_frame :
    (s.ecPipelineEffect b).cfg = s.cfg ∧ (s.ecPipelineEffect b).params = s.params ∧
      (s.ecPipelineEffect b).status = s.status := by
  obtain ⟨_, _, _, -, he⟩ := ecPipelineEffect_eq s b
  rw [he]
  exact ⟨rfl, rfl, rfl⟩

end

/-- Settles O57: EC_PIPELINE's completion is the state in which the other commands draw the symbol. -/
theorem generateIsItsComponents : Obligations.GenerateIsItsComponents := by
  intro s v hv hmask hlen
  obtain ⟨m, hm⟩ := exists_mask_of_le hmask
  have hb := encodable_blockSpec v s.cfg.level
  have hec := exec_ecPipeline hv hlen
  obtain ⟨e, hgenerate⟩ := exec_generate hv hm rfl hlen
  generalize blockSpec v s.cfg.level = b at hb hec hgenerate
  obtain ⟨hcfg, -, hstatus⟩ := ecPipelineEffect_frame (s := s) (b := b)
  have hcount := hb.streamLen s
  obtain ⟨e', hdraw⟩ := runCommands_drawn (s := (s.ecPipelineEffect b).complete) (v := v) (m := m)
    (by rw [State.complete_cfg, hcfg, hv]) (by rw [State.complete_cfg, hcfg, hm]) (hcount.trans_le hb.total_le)
  rw [complete_drawn] at hdraw
  exact ⟨_, _, hgenerate, (runCommands_cons hec).trans hdraw, rfl, by rw [drawn_status, hstatus]⟩

end Sys2Proof.Machine

/-! PROOF. The modules that GENERATE leaves to the walk, and how many they are (10_state.md R53, 44_walk.md R174). -/

namespace Sys2Proof.Machine

/-! ## Counting the modules of the walk -/

theorem isFunc_eq_planeBit {q : QrMatrix} {x y : Int} (hin : q.inb x y = true) :
    q.isFunc x y = planeBit q.functional (q.idx x y) := by
  rw [QrMatrix.isFunc, QrMatrix.get, if_pos hin]

/-- Every index below `S²` is that of a module. -/
theorem exists_idx_eq {q : QrMatrix} {p : Nat} (hp : p < q.size * q.size) :
    ∃ x y : Int, q.inb x y = true ∧ q.idx x y = p := by
  have hx : p % q.size < q.size := Nat.mod_lt _ (Nat.pos_of_lt_mul_right hp)
  have hy : p / q.size < q.size := Nat.div_lt_of_lt_mul hp
  exact ⟨(p % q.size : Nat), (p / q.size : Nat), (inb_natCast q _ _).mpr ⟨hx, hy⟩, Nat.mod_add_div p q.size⟩

/-- The walk passes column 6 over, so where that is functional throughout it visits every non-functional module. -/
theorem mem_dataModules {q : QrMatrix} (hcolumn : ∀ y, q.inb 6 y = true → q.isFunc 6 y = true) {x y : Int} :
    (x, y) ∈ q.dataModules ↔ q.inb x y = true ∧ q.isFunc x y = false := by
  have hvisit : (x, y) ∈ visitOrder q.size ↔ q.inb x y = true ∧ x ≠ 6 := by
    rw [inb_iff]
    exact (mem_visitOrder q.version x y).trans (by simp only [QrMatrix.size]; omega)
  rw [QrMatrix.dataModules, List.mem_filter, hvisit, Bool.not_eq_true', and_assoc]
  refine and_congr_right fun hin => and_iff_right_of_imp fun hf hx => ?_
  subst hx
  exact Bool.false_ne_true (hf.symm.trans (hcolumn y hin))

/-- The plane indices of the non-functional modules, rising. -/
def QrMatrix.dataIndices (q : QrMatrix) : List Nat :=
  (List.range (q.size * q.size)).filter fun p => !planeBit q.functional p

section
variable {q : QrMatrix} (hcolumn : ∀ y, q.inb 6 y = true → q.isFunc 6 y = true)
include hcolumn

theorem perm_dataModules : (q.dataModules.map fun c => q.idx c.1 c.2).Perm q.dataIndices := by
  have hmem {x y : Int} := mem_dataModules hcolumn (x := x) (y := y)
  refine (List.perm_ext_iff_of_nodup ?_ (List.nodup_range.filter _)).mpr fun p => ?_
  · refine (nodup_dataModules q).map_on ?_
    rintro ⟨x, y⟩ hc ⟨x', y'⟩ hc' h
    obtain ⟨rfl, rfl⟩ := idx_inj (hmem.mp hc).1 (hmem.mp hc').1 h
    rfl
  · simp only [List.mem_map, Prod.exists, hmem, List.mem_filter, List.mem_range, Bool.not_eq_true']
    constructor
    · rintro ⟨x, y, ⟨hin, hf⟩, rfl⟩
      exact ⟨idx_lt hin, isFunc_eq_planeBit hin ▸ hf⟩
    · rintro ⟨hp, hf⟩
      obtain ⟨x, y, hin, rfl⟩ := exists_idx_eq hp
      exact ⟨x, y, ⟨hin, (isFunc_eq_planeBit hin).trans hf⟩, rfl⟩

theorem functionalCount_add_length_dataModules : q.functionalCount + q.dataModules.length = q.size * q.size :=
  calc q.functionalCount + q.dataModules.length
    _ = q.functionalCount + q.dataIndices.length := by rw [← (perm_dataModules hcolumn).length_eq, List.length_map]
    _ = (List.range (q.size * q.size)).length := (List.length_eq_length_filter_add _).symm
    _ = q.size * q.size := List.length_range

end

/-- Column 6 of a symbol is two finders, their separators and the timing between (R150). -/
theorem isFunc_paintFunctional_column (v : Version) (y : Int) (hin : (paintFunctional (QrMatrix.new v)).inb 6 y = true) :
    (paintFunctional (QrMatrix.new v)).isFunc 6 y = true := by
  rw [(sameTail_paintFunctional _).inb] at hin
  obtain ⟨-, hy, hy'⟩ := (inb_iff _ _ _).mp hin
  rw [new_size] at hy'
  obtain ⟨n, rfl⟩ := Int.eq_ofNat_of_zero_le hy
  have hS := v.size_bounds
  have hcorner := corners_iff (x := 6) (y := n) hS.1 (by omega) (by omega)
  have hpattern : (timingModule v.size 6 n).isSome = true ∨ (separatorModule v.size (6 : Nat) n).isSome = true ∨
      (finderModule v.size (6 : Nat) n).isSome = true := by
    rw [hcorner, timingModule_isSome]
    omega
  rw [isFunc_paintFunctional_new hin]
  exact .inr (.inr (.inr (.inr hpattern)))

/-- `RAW(V)` modules are left to the walk (R53, R160). -/
theorem length_dataModules_paintFunctional_new (v : Version) :
    (paintFunctional (QrMatrix.new v)).dataModules.length = v.raw := by
  have hcount := functionalCount_add_length_dataModules (isFunc_paintFunctional_column v)
  obtain ⟨-, hraw⟩ := functionalTable_eq v
  rw [(sameTail_paintFunctional _).size, new_size, functionalCount_paintFunctional_new] at hcount
  omega

end Sys2Proof.Machine

/-! PROOF. What GENERATE leaves but for the planes, and what it depends on (46_control.md R203, R204). -/

namespace Sys2Proof.Machine

section
variable {s : State} {b : BlockSpec} (hb : b.Encodable)
include hb

/-- A walk right after EC_PIPELINE reads the stream that EC_PIPELINE made (R133, R171). -/
theorem ecPipelineEffect_walkInput (m : Fin 8) : (s.ecPipelineEffect b).walkInput m =
    { mask := m, stream := codewordStream (s.splitBlocks b) b.ec, remainder := s.params.remainder } := by
  have hlen := length_codewordStream s hb.ec_pos hb.ec_le
  have hstream : (s.ecPipelineEffect b).loadBytes 0x3000 b.totalCw = codewordStream (s.splitBlocks b) b.ec := by
    refine List.ext_getElem (by rw [loadBytes_length, hlen]) fun i _ hi => ?_
    simp only [State.loadBytes, List.getElem_map, List.getElem_range]
    exact memByte_ecPipelineEffect_stream hb.ec_pos hb.ec_le hb.total_le (List.getElem?_eq_getElem hi)
  obtain ⟨-, hparams, -⟩ := ecPipelineEffect_frame (s := s) (b := b)
  rw [State.walkInput, hb.streamLen s, streamBase, hstream, hparams]

end

/-- The codewords of a symbol fill its data modules but for less than one codeword (R53). -/
theorem totalCw_le_raw (v : Version) (e : EcLevel) : 8 * (blockSpec v e).totalCw ≤ v.raw := by
  rw [(blockSpec_rules v e).1]
  exact Nat.mul_div_le _ _

/-- Drawing the symbol writes the matrix, the WALK registers, STATUS and the engine's state. -/
theorem drawn_eq (s : State) (v : Version) (m : Fin 8) (e : Engine) : ∃ wc wm wp,
    s.drawn v m e = { s with matrix := some (s.symbolMatrix v m), walkCount := wc, walkMods := wm, walkPos := wp,
                             engine := e, status := doneStatus s.status } := by
  simp only [State.drawn, State.walkEffect, withEngine_withMatrix, withWalk_withMatrix, withMatrix_withMatrix,
    withEngine_withEngine]
  generalize s.symbolMatrix v m = q
  exact ⟨_, _, _, rfl⟩

/-- GENERATE writes the matrix, the byte memories, STREAM_LEN, the WALK registers and STATUS only (R203). -/
theorem ecPipelineEffect_drawn_frame (s : State) (b : BlockSpec) (v : Version) (m : Fin 8) (e : Engine) :
    let t := (s.ecPipelineEffect b).drawn v m e
    t = { s with matrix := some ((s.ecPipelineEffect b).symbolMatrix v m), mem := t.mem, streamLen := t.streamLen,
                 walkCount := t.walkCount, walkMods := t.walkMods, walkPos := t.walkPos, engine := t.engine,
                 status := doneStatus s.status } := by
  obtain ⟨wc, wm, wp, hdrawn⟩ := drawn_eq (s.ecPipelineEffect b) v m e
  obtain ⟨_, _, _, -, hec⟩ := ecPipelineEffect_eq s b
  generalize (s.ecPipelineEffect b).symbolMatrix v m = q at hdrawn ⊢
  rw [hdrawn, hec]
  rfl

theorem sameTail_walkedMatrix (s : State) (v : Version) (m : Fin 8) : SameTail (QrMatrix.new v) (s.walkedMatrix v m) :=
  (sameTail_paintFunctional _).trans (sameTail_runWalk _ _)

theorem sameTail_symbolMatrix (s : State) (v : Version) (m : Fin 8) : SameTail (QrMatrix.new v) (s.symbolMatrix v m) :=
  (sameTail_walkedMatrix s v m).trans <| (sameTail_paintFormat _ _ _).trans <| sameTail_paintVersion _

/-- The places of codewords are read off the bytes of memory. -/
theorem HoldsCodewords.congr {s t t' : State} {b : BlockSpec} (h : HoldsCodewords s t b)
    (hmem : ∀ a, t'.memByte a = t.memByte a) : HoldsCodewords s t' b := by
  simp only [HoldsCodewords, hmem]
  exact h

section
variable {s : State} {v : Version} {m : Fin 8} {e : Engine}

theorem drawn_walkCount (hlen : s.streamLen.toNat ≤ 4096) :
    (s.drawn v m e).walkCount.toNat = min (8 * s.streamLen.toNat) v.raw := by
  obtain ⟨hcount, -, -⟩ := drawn_walkRegisters s v m e
  rw [hcount, walkEffect_walkCount hlen, length_dataModules_paintFunctional_new]

theorem drawn_walkMods : (s.drawn v m e).walkMods.toNat =
    match s.params.remainder with
    | .maskedZero => v.raw
    | .leave => min (8 * s.streamLen.toNat) v.raw := by
  obtain ⟨-, hmods, -⟩ := drawn_walkRegisters s v m e
  rw [hmods, ← length_dataModules_paintFunctional_new]
  exact walkEffect_walkMods

theorem drawn_walkPos : (s.drawn v m e).walkPos = ⟨BitVec.ofInt 9 (-1), BitVec.ofInt 8 (v.size - 1), true, true⟩ := by
  obtain ⟨-, -, hpos⟩ := drawn_walkRegisters s v m e
  rw [hpos, walkEffect_walkPos, (sameTail_paintFunctional _).size, new_size]

end

/-- Settles O58: the memories are as EC_PIPELINE leaves them, and the walk counts the modules and bits of the symbol. -/
theorem generateResult : Obligations.GenerateResult := by
  intro s v hv hmask b hlen
  obtain ⟨m, hm⟩ := exists_mask_of_le hmask
  have hb : b.Encodable := encodable_blockSpec v s.cfg.level
  have hraw : 8 * b.totalCw ≤ v.raw := totalCw_le_raw v s.cfg.level
  obtain ⟨e, hgenerate⟩ := exec_generate (b := b) hv hm rfl hlen
  clear_value b
  obtain ⟨-, hparams, -⟩ := ecPipelineEffect_frame (s := s) (b := b)
  have hlength := hb.streamLen s
  have hcount := drawn_walkCount (v := v) (m := m) (e := e) (hlength.trans_le hb.total_le)
  have hmods := drawn_walkMods (s := s.ecPipelineEffect b) (v := v) (m := m) (e := e)
  rw [hlength, Nat.min_eq_left hraw] at hcount hmods
  rw [hparams] at hmods
  refine ⟨_, _, hgenerate, ecPipelineEffect_drawn_frame s b v m e, (sameTail_symbolMatrix _ v m).1, ?_, ?_, hcount,
    hmods, registerValue_of_walkPos v drawn_walkPos⟩
  · exact (holdsCodewords_ecPipelineEffect s hb.ec_pos hb.ec_le hb.total_le).congr (drawn_memByte _ v m e)
  · rw [drawn_streamLen, hlength]

/-! ## What GENERATE depends on -/

/-- Item `i` of block `t`, of `n` blocks of `k` items each, stands among their `k·n` items. -/
theorem mul_add_lt_mul {t n k i : Nat} (ht : t < n) (hi : i < k) : t * k + i < k * n :=
  calc t * k + i
    _ < t * k + k := Nat.add_lt_add_left hi _
    _ = k * (t + 1) := by rw [Nat.mul_succ, Nat.mul_comm]
    _ ≤ k * n := Nat.mul_le_mul_left k ht

section
variable {s s' : State} {b : BlockSpec}

/-- The data blocks of a symbol are made of its payload (R131). -/
theorem splitBlocks_congr (h : ∀ a, a < b.dataTotal → s.memByte (0x1000 + a) = s'.memByte (0x1000 + a)) :
    s.splitBlocks b = s'.splitBlocks b := by
  refine congrArg₂ (· ++ ·) (List.map_congr_left fun t ht => ?_) (List.map_congr_left fun u hu => ?_)
  · refine loadBytes_congr fun i hi => ?_
    have hlt := mul_add_lt_mul (List.mem_range.mp ht) hi
    rw [dataInBase, Nat.add_assoc]
    exact h _ (Nat.lt_add_right _ hlt)
  · refine loadBytes_congr fun i hi => ?_
    have hlt := mul_add_lt_mul (List.mem_range.mp hu) hi
    rw [dataInBase, Nat.add_assoc, Nat.add_assoc, Nat.mul_comm b.n1]
    exact h _ (Nat.add_lt_add_left hlt _)

variable (hb : b.Encodable) (hblocks : s.splitBlocks b = s'.splitBlocks b)
include hb hblocks

theorem memByte_ecPipelineEffect_stream_congr {i : Nat} (hi : i < b.totalCw) :
    (s.ecPipelineEffect b).memByte (0x3000 + i) = (s'.ecPipelineEffect b).memByte (0x3000 + i) := by
  obtain ⟨x, hplace⟩ : ∃ x, (codewordStream (s.splitBlocks b) b.ec)[i]? = some x :=
    ⟨_, List.getElem?_eq_getElem (by rwa [length_codewordStream s hb.ec_pos hb.ec_le])⟩
  rw [memByte_ecPipelineEffect_stream hb.ec_pos hb.ec_le hb.total_le hplace,
    memByte_ecPipelineEffect_stream hb.ec_pos hb.ec_le hb.total_le (hblocks ▸ hplace)]

theorem memByte_ecPipelineEffect_ecbuf_congr {i : Nat} (hi : i < b.ec * b.blockCount) :
    (s.ecPipelineEffect b).memByte (0x2000 + i) = (s'.ecPipelineEffect b).memByte (0x2000 + i) := by
  have hec : ecBlocks s b = ecBlocks s' b := by rw [ecBlocks, ecBlocks, hblocks]
  obtain ⟨x, hplace⟩ : ∃ x, (ecBlocks s b).flatten[i]? = some x :=
    ⟨_, List.getElem?_eq_getElem (by rwa [length_flatten_ecBlocks s hb.ec_pos hb.ec_le])⟩
  rw [memByte_ecPipelineEffect_ecbuf hb.ec_pos hb.ec_le hb.total_le hplace,
    memByte_ecPipelineEffect_ecbuf hb.ec_pos hb.ec_le hb.total_le (hec ▸ hplace)]

theorem ecPipelineEffect_walkInput_congr (hparams : s.params = s'.params) (m : Fin 8) :
    (s.ecPipelineEffect b).walkInput m = (s'.ecPipelineEffect b).walkInput m := by
  rw [ecPipelineEffect_walkInput hb, ecPipelineEffect_walkInput hb, hblocks, hparams]

end

/-- A symbol is drawn from the level of CFG and what the walk reads. -/
theorem drawn_congr {s s' : State} {m : Fin 8} (hcfg : s.cfg = s'.cfg) (hinput : s.walkInput m = s'.walkInput m)
    (v : Version) (e e' : Engine) :
    (s.drawn v m e).matrix = (s'.drawn v m e').matrix ∧ (s.drawn v m e).walkCount = (s'.drawn v m e').walkCount ∧
      (s.drawn v m e).walkMods = (s'.drawn v m e').walkMods ∧ (s.drawn v m e).walkPos = (s'.drawn v m e').walkPos := by
  simp [State.drawn, State.symbolMatrix, State.walkedMatrix, State.walkEffect, hcfg, hinput]

/-- Settles O59: both runs split the same blocks from the payload, and all that GENERATE writes comes from these and CFG. -/
theorem generateDependsOnItsInputsOnly : Obligations.GenerateDependsOnItsInputsOnly := by
  intro s s' t t' v hcfg hdataLen hparams hpayload hv hmask hlen ht ht'
  obtain ⟨m, hm⟩ := exists_mask_of_le hmask
  have hb := encodable_blockSpec v (levelOf s.cfg.ecl)
  generalize hspec : blockSpec v (levelOf s.cfg.ecl) = b at hlen hb ⊢
  obtain ⟨e, hrun⟩ := exec_generate hv hm hspec hlen
  obtain ⟨e', hrun'⟩ := exec_generate (hcfg ▸ hv) (hcfg ▸ hm) (hcfg ▸ hspec) (hdataLen ▸ hlen)
  obtain rfl : _ = t := Host.Outcome.next.inj (hrun.symm.trans ht)
  obtain rfl : _ = t' := Host.Outcome.next.inj (hrun'.symm.trans ht')
  rw [hlen] at hpayload
  have hblocks := splitBlocks_congr hpayload
  have hlength := hb.streamLen s
  have hlength' := hb.streamLen s'
  obtain ⟨hcfgEc, -, -⟩ := ecPipelineEffect_frame (s := s) (b := b)
  obtain ⟨hcfgEc', -, -⟩ := ecPipelineEffect_frame (s := s') (b := b)
  have hinput := ecPipelineEffect_walkInput_congr hb hblocks hparams m
  obtain ⟨hmatrix, hcount, hmods, hpos⟩ := drawn_congr (hcfgEc.trans (hcfg.trans hcfgEc'.symm)) hinput v e e'
  refine ⟨hmatrix, ?_, hcount, hmods, hpos, fun i hi => ?_, fun i hi => ?_⟩
  · rw [drawn_streamLen, drawn_streamLen]
    exact BitVec.eq_of_toNat_eq (hlength.trans hlength'.symm)
  · rw [drawn_memByte, drawn_memByte, memByte_ecPipelineEffect_stream_congr hb hblocks hi]
  · rw [drawn_memByte, drawn_memByte, memByte_ecPipelineEffect_ecbuf_congr hb hblocks hi]

end Sys2Proof.Machine

/-! PROOF. Every module of the matrix that GENERATE leaves (46_control.md R202 to R204). -/

namespace Sys2Proof.Machine

/-! ## What the fixed patterns of a symbol paint -/

theorem alignCenters_bounds {v : Version} {a : Nat} (h : a ∈ alignCenters v) :
    a = 6 ∨ a + 7 = v.size ∨ (18 ≤ a ∧ a + 19 ≤ v.size) := by
  rcases mem_alignCenters.mp h with ⟨-, rfl⟩ | h
  · exact .inl rfl
  · rcases mem_laterCenters.mp h with h | ⟨-, rfl⟩
    · exact .inr (.inr (middleCenters_bounds h))
    · have := v.size_bounds
      omega

/-- No alignment centre is in a separator (R152, R153). -/
theorem separatorModule_alignCenters {v : Version} {a b : Nat} (ha : a ∈ alignCenters v) (hb : b ∈ alignCenters v) :
    separatorModule v.size a b = none := by
  have hS := v.size_bounds
  have hA := alignCenters_bounds ha
  have hB := alignCenters_bounds hb
  rw [← Option.not_isSome_iff_eq_none, separatorModule_isSome]
  unfold ringOf
  omega

/-- The alignment patterns of a symbol: those whose centre no finder has (R153). -/
def symbolAlignment (v : Version) (x y : Int) : Option Bool :=
  (((alignCenters v).product (alignCenters v)).find?
    (fun c => (finderModule v.size c.1 c.2).isNone && decide (ringOf c.1 c.2 x y ≤ 2))).map
    (fun c => decide (ringOf c.1 c.2 x y ≠ 1))

/-- PAINT_ALIGNMENT finds the centres free that no finder has (R153). -/
theorem alignmentModule_withFinders_new (v : Version) (x y : Int) :
    alignmentModule (withFinders (QrMatrix.new v)) x y = symbolAlignment v x y := by
  have hversion : (withFinders (QrMatrix.new v)).version = v := (painted_withFinders _).1.1
  rw [alignmentModule, symbolAlignment, hversion]
  refine congrArg _ (List.find?_congr ?_)
  rintro ⟨a, b⟩ hc
  obtain ⟨ha, hb⟩ := List.mem_product.mp hc
  rw [isFunc_withFinders_new ((inb_natCast _ a b).mpr ⟨alignCenters_lt ha, alignCenters_lt hb⟩),
    separatorModule_alignCenters ha hb]
  cases finderModule v.size a b <;> rfl

/-- The modules that neither PAINT_FORMAT nor PAINT_VERSION writes: the dark module, finders, separators, alignment patterns
and timing (R151 to R155). -/
def fixedModule (v : Version) (x y : Int) : Option Bool :=
  (darkModule v.num x y).or ((finderModule v.size x y).or ((separatorModule v.size x y).or
    ((symbolAlignment v x y).or (timingModule v.size x y))))

/-- The modules that PAINT_VERSION and PAINT_FORMAT write (R190 to R193). -/
def infoModule (v : Version) (e : EcLevel) (m : Fin 8) (x y : Int) : Option Bool :=
  (if 7 ≤ v.num then (versionCellIndex v.size x y).map (fun i => (verWord v.num).getLsbD i) else none).or
    ((formatCellIndex v.size x y).map (fun k => (fmtWord e m).getLsbD (14 - k)))

/-- The modules that PAINT_FUNCTIONAL reserves for these, all light (R157, R158). -/
def reservedModule (v : Version) (x y : Int) : Option Bool :=
  (if 7 ≤ v.num then (versionCellIndex v.size x y).map (fun _ => false) else none).or
    ((formatCellIndex v.size x y).map (fun _ => false))

theorem isSome_reservedModule (v : Version) (e : EcLevel) (m : Fin 8) (x y : Int) :
    (reservedModule v x y).isSome = (infoModule v e m x y).isSome := by
  unfold reservedModule infoModule
  split <;> simp only [Option.isSome_or, Option.isSome_map]

theorem reservedModule_eq_none {v : Version} {e : EcLevel} {m : Fin 8} {x y : Int} (h : infoModule v e m x y = none) :
    reservedModule v x y = none := by
  rw [← Option.not_isSome_iff_eq_none, isSome_reservedModule v e m, h]
  exact Bool.false_ne_true

theorem or_comm_of_disjoint {a b : Option Bool} (h : a = none ∨ b = none) : a.or b = b.or a := by
  rcases h with rfl | rfl <;> simp

theorem none_ite_isSome_or (a b : Option Bool) : (if a.isSome = true then none else b).or a = a.or b := by
  cases a <;> simp

/-- No format cell is in a version block (R156, R158). -/
theorem symbolModule_eq (v : Version) (e : EcLevel) (m : Fin 8) (x y : Int) :
    symbolModule v e m x y = (infoModule v e m x y).or (fixedModule v x y) := by
  have hS := v.size_bounds
  have hcells : versionCellIndex v.size x y = none ∨ formatCellIndex v.size x y = none := by
    simp only [← Option.not_isSome_iff_eq_none, versionCellIndex_isSome, formatCellIndex_isSome]
    omega
  have hinfo :
      (if 7 ≤ v.num then (versionCellIndex v.size x y).map (fun i => (verWord v.num).getLsbD i) else none) = none ∨
      (formatCellIndex v.size x y).map (fun k => (fmtWord e m).getLsbD (14 - k)) = none :=
    hcells.imp (fun h => by simp [h]) (fun h => by simp [h])
  rw [infoModule, or_comm_of_disjoint hinfo, Option.or_assoc]
  rfl

theorem finderModule_disjoint_separatorModule {S x y : Int} (hS : 21 ≤ S) :
    separatorModule S x y = none ∨ finderModule S x y = none := by
  simp only [← Option.not_isSome_iff_eq_none, separatorModule_isSome, finderModule_isSome, ringOf]
  omega

/-- No alignment pattern of a symbol reaches into a finder's corner (R153). -/
theorem symbolAlignment_disjoint_corners {v : Version} {x y : Nat} (hx : x < v.size) (hy : y < v.size) :
    symbolAlignment v x y = none ∨ (finderModule v.size x y).or (separatorModule v.size x y) = none := by
  rw [← alignmentModule_withFinders_new]
  simp only [← Option.not_isSome_iff_eq_none, Option.isSome_or, Bool.or_eq_true]
  rw [alignmentModule_withFinders_isSome, or_comm (a := _ = true), corners_iff v.size_bounds.1 hx hy, ← not_and_or]
  rintro ⟨⟨a, ha, b, hb, hcorner, hxa, hyb⟩, hxy⟩
  have hS := v.size_bounds
  have hA := alignCenters_bounds ha
  have hB := alignCenters_bounds hb
  omega

/-- Finders, separators and alignment patterns are apart, and where a timing line meets one of them it gives way (R154). -/
theorem painted_paintFunctional_new (v : Version) : Painted (QrMatrix.new v) (paintFunctional (QrMatrix.new v))
    (fun x y => (reservedModule v x y).or (fixedModule v x y)) := by
  refine (painted_paintFunctional _).congr fun x y hin => ?_
  have hin' := ((painted_withFinders _).1.inb x y).trans hin
  obtain ⟨⟨hx, hx'⟩, hy, hy'⟩ := (inb_iff _ _ _).mp hin
  obtain ⟨n, rfl⟩ := Int.eq_ofNat_of_zero_le hx
  obtain ⟨k, rfl⟩ := Int.eq_ofNat_of_zero_le hy
  rw [new_size] at hx' hy'
  have hS : (21 : Int) ≤ v.size := size_ge (QrMatrix.new v)
  have hfunc : (paintAlignment (withFinders (QrMatrix.new v))).isFunc n k =
      ((symbolAlignment v n k).or ((separatorModule v.size n k).or (finderModule v.size n k))).isSome := by
    rw [(painted_paintAlignment _).isFunc hin', isFunc_withFinders_new hin, alignmentModule_withFinders_new,
      Option.isSome_or, Option.isSome_or]
  rw [hfunc, alignmentModule_withFinders_new, new_size, new_version, none_ite_isSome_or,
    or_comm_of_disjoint (finderModule_disjoint_separatorModule hS),
    or_comm_of_disjoint (symbolAlignment_disjoint_corners (by omega) (by omega)), reservedModule, fixedModule]
  simp only [Option.or_assoc]

/-! ## The matrix that GENERATE draws -/

section
variable {v : Version} {e : EcLevel} {m : Fin 8} {x y : Int}

theorem isFunc_paintFunctional_new_eq (e : EcLevel) (m : Fin 8) (hin : (QrMatrix.new v).inb x y = true) :
    (paintFunctional (QrMatrix.new v)).isFunc x y = (symbolModule v e m x y).isSome := by
  rw [(painted_paintFunctional_new v).isFunc hin, isFunc_new, Bool.or_false, symbolModule_eq, Option.isSome_or,
    Option.isSome_or, isSome_reservedModule v e m]

/-- The data and remainder modules of a symbol are those that PAINT_FUNCTIONAL leaves to the walk (R176). -/
theorem symbolPlaces_eq (v : Version) (e : EcLevel) (m : Fin 8) :
    symbolPlaces v e m = (paintFunctional (QrMatrix.new v)).dataModules := by
  have hsize : (paintFunctional (QrMatrix.new v)).size = v.size := (sameTail_paintFunctional _).size
  rw [symbolPlaces, QrMatrix.dataModules, hsize]
  refine List.filter_congr fun c hc => ?_
  obtain ⟨hx, hx', hy, hy', -⟩ := (mem_visitOrder v c.1 c.2).mp hc
  rw [isFunc_paintFunctional_new_eq e m ((inb_iff _ _ _).mpr ⟨⟨hx, hx'⟩, hy, hy'⟩), Option.not_isSome]

theorem mem_symbolPlaces : (x, y) ∈ symbolPlaces v e m ↔
    (QrMatrix.new v).inb x y = true ∧ symbolModule v e m x y = none := by
  rw [symbolPlaces_eq, mem_dataModules (isFunc_paintFunctional_column v), (sameTail_paintFunctional _).inb]
  refine and_congr_right fun hin => ?_
  rw [isFunc_paintFunctional_new_eq e m hin, Option.isSome_eq_false_iff, Option.isNone_iff_eq_none]

theorem get_new (hin : (QrMatrix.new v).inb x y = true) :
    (QrMatrix.new v).get x y = some { value := false, functional := false } := by
  rw [QrMatrix.get, if_pos hin]
  simp only [planeBit_new]

/-- Outside the format and version cells PAINT_FUNCTIONAL paints the fixed patterns and leaves the rest as
MAT_NEW wrote it. -/
theorem paintFunctional_new_get (hin : (QrMatrix.new v).inb x y = true) (hinfo : infoModule v e m x y = none) :
    (paintFunctional (QrMatrix.new v)).get x y =
      some { value := (fixedModule v x y).getD false, functional := (fixedModule v x y).isSome } := by
  obtain ⟨hsome, hnone⟩ := (painted_paintFunctional_new v).2 x y hin
  simp only [reservedModule_eq_none hinfo, Option.none_or] at hsome hnone
  cases hfixed : fixedModule v x y with
  | some d => exact hsome d hfixed
  | none => exact (hnone hfixed).trans (get_new hin)

end

section
variable {s : State} {v : Version} {m : Fin 8} {x y : Int}

/-- The matrix as the walk leaves it gets the format and version words last (R202). -/
theorem painted_symbolMatrix (s : State) (v : Version) (m : Fin 8) :
    Painted (s.walkedMatrix v m) (s.symbolMatrix v m) (infoModule v s.cfg.level m) := by
  have htail := sameTail_walkedMatrix s v m
  have htail' := htail.trans (sameTail_paintFormat s.cfg.level m _)
  have h := (painted_paintFormat s.cfg.level m (s.walkedMatrix v m)).trans (painted_paintVersion _)
  rwa [htail'.1, htail'.size, htail.size] at h

theorem symbolMatrix_get (hin : (QrMatrix.new v).inb x y = true) :
    (∀ d, infoModule v s.cfg.level m x y = some d →
      (s.symbolMatrix v m).get x y = some { value := d, functional := true }) ∧
    (infoModule v s.cfg.level m x y = none → (s.symbolMatrix v m).get x y = (s.walkedMatrix v m).get x y) :=
  (painted_symbolMatrix s v m).2 x y (((sameTail_walkedMatrix s v m).inb x y).trans hin)

/-- A functional module has its bit of the format or version word, or its pattern's value: the walk passes it over (R202). -/
theorem symbolMatrix_get_functional (hin : (QrMatrix.new v).inb x y = true) {d : Bool}
    (h : symbolModule v s.cfg.level m x y = some d) :
    (s.symbolMatrix v m).get x y = some { value := d, functional := true } := by
  obtain ⟨hsome, hnone⟩ := symbolMatrix_get (s := s) (m := m) hin
  have hplace : (x, y) ∉ symbolPlaces v s.cfg.level m := fun hc => by simp [(mem_symbolPlaces.mp hc).2] at h
  rw [symbolPlaces_eq] at hplace
  rw [symbolModule_eq, Option.or_eq_some_iff] at h
  rcases h with hinfo | ⟨hinfo, hfixed⟩
  · exact hsome d hinfo
  · rw [hnone hinfo, State.walkedMatrix, runWalk_get_other _ _ hplace, paintFunctional_new_get hin hinfo, hfixed]
    rfl

/-- The other modules are as the walk leaves them (R175, R176). -/
theorem symbolMatrix_get_place {j : Nat} (hj : (symbolPlaces v s.cfg.level m)[j]? = some (x, y)) :
    (s.symbolMatrix v m).get x y = some
      { value :=
          if j < 8 * s.streamLen.toNat then xor (streamBitAt s j) (maskP m x.toNat y.toNat)
          else
            match s.params.remainder with
            | .maskedZero => maskP m x.toNat y.toNat
            | .leave => false
        functional := false } := by
  obtain ⟨hin, hmodule⟩ := mem_symbolPlaces.mp (List.mem_of_getElem? hj)
  rw [symbolModule_eq, Option.or_eq_none_iff] at hmodule
  obtain ⟨hinfo, hfixed⟩ := hmodule
  rw [symbolPlaces_eq] at hj
  rw [(symbolMatrix_get hin).2 hinfo, State.walkedMatrix, runWalk_get_dataModule _ _ hj, placedModule_walkInput,
    paintFunctional_new_get hin hinfo, hfixed]
  split
  · rfl
  · cases s.params.remainder <;> rfl

end

/-- Settles O60: GENERATE draws the symbol of the codewords that its first phase puts in `STREAM`. -/
theorem generateMatrixResult : Obligations.GenerateMatrixResult := by
  intro s v m hv hm e b places hlen
  have hb : b.Encodable := encodable_blockSpec v e
  obtain ⟨engine, hgenerate⟩ := exec_generate (b := b) hv hm rfl hlen
  clear_value b
  obtain ⟨hcfg, hparams, -⟩ := ecPipelineEffect_frame (s := s) (b := b)
  have hlength := hb.streamLen s
  have hlevel : (s.ecPipelineEffect b).cfg.level = e := congrArg Cfg.level hcfg
  have htail := sameTail_symbolMatrix (s.ecPipelineEffect b) v m
  have hraw : places.length = v.raw :=
    (congrArg List.length (symbolPlaces_eq v e m)).trans (length_dataModules_paintFunctional_new v)
  refine ⟨_, _, hgenerate, drawn_matrix _ v m engine, htail.1, htail.tailClear (tailClear_new v), hraw,
    fun x y d hin hd => ?_, fun x y hin hn => ?_, fun j x y hj => ?_⟩
  · exact symbolMatrix_get_functional ((htail.inb x y).symm.trans hin) (hlevel ▸ hd)
  · exact mem_symbolPlaces.mpr ⟨(htail.inb x y).symm.trans hin, hn⟩
  · have hget := symbolMatrix_get_place (s := s.ecPipelineEffect b) (v := v) (m := m) (by rw [hlevel]; exact hj)
    rw [hlength, hparams] at hget
    rw [drawn_streamBitAt]
    exact hget

end Sys2Proof.Machine

/-! PROOF. The life of a command: its start, its end on every schedule, and the error it reports (60_exceptions.md R210 to
R215, 70_reset_and_hazards.md R241, R244). -/

namespace Sys2Proof.Machine

/-! ## The start of a command -/

/-- While BUSY, a host write is the write-1-to-clear of STATUS, or it is dropped and sets OVR (R241). -/
theorem hostWrite_of_busy {s : State} (hb : s.status.busy = true) (a n : Nat) (w : Word) :
    s.hostWrite a n w = s.withStatus (if a = 0x08 then s.status.w1c w else s.status.overrun) := by
  rw [State.hostWrite, if_pos hb, State.busyWrite]
  split <;> rfl

/-- With BUSY = 0, a host write to `CMD` starts a command (R210). -/
theorem hostWrite_cmd_of_idle {s : State} (hb : s.status.busy = false) (n : Nat) (w : Word) :
    s.hostWrite 0x04 n w = s.startCommand w := by
  rw [State.hostWrite, hb]
  rfl

/-- No host write ends the command in progress: BUSY is 0 only where the engine or the reset input clears it (R24). -/
theorem hostWrite_of_busy_busy {s : State} (hb : s.status.busy = true) (a n : Nat) (w : Word) :
    (s.hostWrite a n w).status.busy = true := by
  rw [hostWrite_of_busy hb, State.withStatus_status]
  split
  · rw [Status.w1c_eq]; exact hb
  · exact hb

/-- While BUSY, a transaction changes STATUS, where BUSY stays 1, and the response, and nothing else (R89, R241). -/
theorem transact_of_busy {s : State} (hb : s.status.busy = true) (r : Request) :
    ∃ st p, s.transact r = { s with status := st, rsp := p, draws := s.draws + 1 } ∧ st.busy = true := by
  rcases transact_cases s r with ⟨p, hp⟩ | ⟨n, p, -, -, hp⟩
  · exact ⟨s.status, some p, hp, hb⟩
  · have hbusy := hostWrite_of_busy_busy hb r.addr.toNat n r.wdata
    rw [hostWrite_of_busy hb] at hp hbusy
    exact ⟨_, some p, hp, hbusy⟩

/-- Settles O8, by BUSY at the write to `CMD`, and by what any transaction can do while BUSY. -/
theorem commandStart : Obligations.CommandStart := by
  refine ⟨fun s r hlegal hw haddr => ?_, fun s r hb => transact_of_busy hb r⟩
  have ht := transact_of_write (s := s) hlegal hw
  rw [haddr] at ht
  constructor <;> intro hb
  · rw [hostWrite_cmd_of_idle hb] at ht
    exact ⟨_, ht⟩
  · rw [hostWrite_of_busy hb] at ht
    exact ⟨_, ht⟩

/-! ## The end of a command -/

/-- No command stops the machine: an error is a next state too (R213). -/
theorem exec_eq_next (i : Instr) (s : State) : ∃ t, exec i s = .next t := by
  rw [exec_eq_runCommand]
  cases commandBody i s with
  | ok t => exact ⟨_, runCommand_ok s t⟩
  | error c => exact ⟨_, runCommand_error s c⟩

/-- No step stops the machine (R78, R213). -/
theorem step_eq_next (s : State) : ∃ t, step s = .next t := by
  rcases step_cases (s := s) rfl with ⟨t, -, h⟩ | ⟨r, t, -, h⟩ | ⟨t, -, h⟩ | ⟨t, i, -, -, h⟩ | ⟨t, e, -, -, h⟩
  · exact ⟨_, h⟩
  · exact ⟨_, h⟩
  · exact ⟨_, h⟩
  · rw [h]; exact exec_eq_next i t
  · exact ⟨_, h⟩

/-- The engine's last step of a command clears BUSY (R211). -/
theorem exec_busy {i : Instr} {s t : State} (h : exec i s = .next t) : t.status.busy = false := by
  rcases exec_status h with hst | ⟨c, hst⟩ <;> rw [hst] <;> rfl

/-- While BUSY, a step ends the command in progress, or it is a host turn, which uses up one turn of the schedule. -/
theorem step_of_busy {s : State} (hb : s.status.busy = true) :
    ∃ t, step s = .next t ∧ (t.status.busy = false ∨ t.status.busy = true ∧ ∃ r, s.turns = .host r :: t.turns) := by
  obtain ⟨t, ht⟩ := step_eq_next s
  refine ⟨t, ht, ?_⟩
  obtain ⟨ts, hc⟩ := step_next_cases ht
  rcases hc with ⟨r, hs, rfl⟩ | ⟨-, rfl⟩ | ⟨-, -, i, -, he⟩ | ⟨-, -, rfl⟩ | ⟨hidle, -, -⟩
  · obtain ⟨st, p, htransact, hst⟩ := transact_of_busy (s := s.withTurns ts) hb r
    rw [htransact]
    exact .inr ⟨hst, r, hs⟩
  · exact .inl rfl
  · exact .inl (exec_busy he)
  · exact .inl rfl
  · rw [hb] at hidle; cases hidle

/-- A run takes its first step and goes on from there. -/
theorem run_succ (M : Host.Core) {s t : M.State} (h : M.step s = .next t) (n : Nat) : M.run (n + 1) s = M.run n t := by
  rw [Host.Core.run, h]

/-- A command in progress ends, or a reset abandons it, within the scheduled turns and one more: each step that does not
end it is a scheduled host turn, and an empty schedule is the engine's turn (R244). -/
theorem run_ends_command (ts : List Turn) {s : State} (hb : s.status.busy = true) (hturns : s.turns = ts) :
    ∃ n t, n ≤ ts.length + 1 ∧ core.run n s = .next t ∧ t.status.busy = false := by
  induction ts generalizing s with
  | nil =>
    obtain ⟨t, ht, hended | ⟨-, r, hr⟩⟩ := step_of_busy hb
    · exact ⟨1, t, le_rfl, run_succ core ht 0, hended⟩
    · rw [hturns] at hr; cases hr
  | cons turn ts ih =>
    obtain ⟨t, ht, hended | ⟨hbusy, r, hr⟩⟩ := step_of_busy hb
    · exact ⟨1, t, Nat.le_add_left 1 _, run_succ core ht 0, hended⟩
    · have htail : t.turns = ts := (List.cons.inj (hr.symm.trans hturns)).2
      obtain ⟨n, u, hn, hrun, hu⟩ := ih hbusy htail
      exact ⟨n + 1, u, Nat.succ_le_succ hn, (run_succ core ht n).trans hrun, hu⟩

/-- Settles O9: what a command leaves in STATUS, and the induction on the schedule. -/
theorem everyCommandCompletes : Obligations.EveryCommandCompletes := by
  refine ⟨fun i s => ?_, fun s hb => run_ends_command s.turns hb rfl, step_eq_next⟩
  obtain ⟨t, ht⟩ := exec_eq_next i s
  exact ⟨t, ht, exec_status ht⟩

/-! ## The error a command reports -/

/-- The error of a command's body, or of one of its checks, if it fails. -/
def errorOf {α : Type} (x : Except CmdError α) : Option CmdError :=
  match x with
  | .ok _ => none
  | .error c => some c

@[simp] theorem errorOf_ok {α : Type} (a : α) : errorOf (.ok a : Except CmdError α) = none := rfl
@[simp] theorem errorOf_error {α : Type} (c : CmdError) : errorOf (.error c : Except CmdError α) = some c := rfl

/-- A check, then the rest of the body where it passes: the first failing one is reported (R214). -/
theorem errorOf_bind {α β : Type} {x : Except CmdError α} {f : α → Except CmdError β} {bad : Bool} {c : CmdError}
    {rest : List (Bool × CmdError)} (hx : errorOf x = firstError [(bad, c)])
    (hf : ∀ a, x = .ok a → errorOf (f a) = firstError rest) : errorOf (x >>= f) = firstError ((bad, c) :: rest) := by
  cases x with
  | ok a =>
    have hbad : bad = false := by simpa [firstError, eq_comm] using hx
    simp [hbad, firstError, hf a rfl]
  | error e =>
    obtain ⟨hbad, rfl⟩ : bad = true ∧ c = e := by simpa [firstError, eq_comm] using hx
    simp [hbad, firstError]

/-- A check that is a body's last. -/
theorem errorOf_bind_last {α β : Type} {x : Except CmdError α} {f : α → β} {bad : Bool} {c : CmdError}
    (hx : errorOf x = firstError [(bad, c)]) :
    errorOf (x >>= fun a => (pure (f a) : Except CmdError β)) = firstError [(bad, c)] :=
  errorOf_bind hx fun _ _ => rfl

/-! ### The checks -/

section
variable (s : State)

theorem versionBad_eq_isNone : versionBad s = s.cfg.legalVersion.isNone := by
  rw [Bool.eq_iff_iff]
  simp only [versionBad, Bool.or_eq_true, decide_eq_true_eq, Cfg.legalVersion, versionOf, ne_eq,
    Option.isNone_iff_eq_none, dite_eq_right_iff, reduceCtorEq, imp_false, not_and, Decidable.not_not]
  omega

theorem maskBad_eq_isNone : maskBad s = s.cfg.legalMask.isNone := by
  rw [Bool.eq_iff_iff]
  simp only [maskBad, decide_eq_true_eq, Cfg.legalMask, Option.isNone_iff_eq_none, dite_eq_right_iff, reduceCtorEq,
    imp_false, not_lt]
  omega

/-- `MAT_INFO.VALID` is 1 whenever a matrix is held (R30). -/
theorem matrixMissing_eq_isNone : matrixMissing s = s.matrix.isNone := by
  rw [matrixMissing]
  cases s.matrix with
  | none => rfl
  | some q =>
    simp only [matInfoWord, BitVec.getLsbD_append]
    simp

theorem errorOf_versionOperand : errorOf s.versionOperand = firstError [(versionBad s, .invalidVersion)] := by
  rw [versionBad_eq_isNone, State.versionOperand]
  cases s.cfg.legalVersion <;> rfl

theorem errorOf_maskOperand : errorOf s.maskOperand = firstError [(maskBad s, .invalidMask)] := by
  rw [maskBad_eq_isNone, State.maskOperand]
  cases s.cfg.legalMask <;> rfl

theorem errorOf_matrixOperand : errorOf s.matrixOperand = firstError [(matrixMissing s, .noMatrix)] := by
  rw [matrixMissing_eq_isNone, State.matrixOperand]
  cases s.matrix <;> rfl

/-- The length check is made with a legal version only, since the version's check comes first (R215). -/
theorem errorOf_payloadOperand {s : State} {v : Version} (hv : s.versionOperand = .ok v) :
    errorOf (s.payloadOperand v) = firstError [(lengthBad s, .payloadLengthMismatch)] := by
  have hbad : lengthBad s = decide (s.dataLen.toNat ≠ (blockSpec v s.cfg.level).dataTotal) := by
    rw [lengthBad, show versionOf s.cfg.version.toNat = some v from versionOperand_ok.mp hv]
    rfl
  rw [hbad, State.payloadOperand]
  by_cases h : s.dataLen.toNat = (blockSpec v s.cfg.level).dataTotal <;> simp [h, firstError]

end

/-- A range check fails outside its range. -/
theorem errorOf_operandCheck {ok bad : Bool} (h : ok = true ↔ ¬bad = true) :
    errorOf (operandCheck ok) = firstError [(bad, .invalidOperand)] := by
  cases ok <;> cases bad <;> simp_all [operandCheck, firstError]

/-- A range of bytes fits a memory of 4096 bytes (R6). -/
theorem errorOf_operandCheck_memSize (n : Nat) :
    errorOf (operandCheck (decide (n ≤ memSize))) = firstError [(decide (4096 < n), .invalidOperand)] :=
  errorOf_operandCheck (by rw [decide_eq_true_eq, decide_eq_true_eq]; exact Nat.not_lt.symm)

/-! ### The bodies -/

section
variable (s : State)

theorem errorOf_painterBody (paint : QrMatrix → QrMatrix) (passes : QrMatrix → Nat) :
    errorOf (painterBody s paint passes) = firstError [(matrixMissing s, .noMatrix)] :=
  errorOf_bind_last (errorOf_matrixOperand s)

theorem errorOf_rsBlockBody (k : Nat) : errorOf (rsBlockBody k s) = expectedError (.rsBlock k) s := by
  have hk : (decide (k ≠ 0) && decide (k ≤ 68)) = true ↔ ¬(decide (k < 1) || decide (68 < k)) = true := by simp
  exact errorOf_bind (errorOf_operandCheck hk) fun _ _ =>
    errorOf_bind (errorOf_operandCheck_memSize _) fun _ _ => errorOf_bind_last (errorOf_operandCheck_memSize _)

theorem errorOf_ecPipelineBody : errorOf (ecPipelineBody s) = expectedError .ecPipeline s :=
  errorOf_bind (errorOf_versionOperand s) fun _ hv => errorOf_bind_last (errorOf_payloadOperand hv)

theorem errorOf_walkBody : errorOf (walkBody s) = expectedError .walk s :=
  errorOf_bind (errorOf_maskOperand s) fun _ _ =>
    errorOf_bind (errorOf_matrixOperand s) fun _ _ => errorOf_bind_last (errorOf_operandCheck_memSize _)

theorem errorOf_paintFormatBody : errorOf (paintFormatBody s) = expectedError .paintFormat s :=
  errorOf_bind (errorOf_maskOperand s) fun _ _ => errorOf_bind_last (errorOf_matrixOperand s)

theorem errorOf_generateBody : errorOf (generateBody s) = expectedError .generate s :=
  errorOf_bind (errorOf_versionOperand s) fun _ hv =>
    errorOf_bind (errorOf_maskOperand s) fun _ _ => errorOf_bind_last (errorOf_payloadOperand hv)

/-- Every command makes the checks of R215 in their order, before any effect. -/
theorem errorOf_commandBody (i : Instr) : errorOf (commandBody i s) = expectedError i s := by
  cases i with
  | nop | gfAdd | gfMul => rfl
  | matNew => exact errorOf_bind_last (errorOf_versionOperand s)
  | matPut | matGet => exact errorOf_bind_last (errorOf_matrixOperand s)
  | gfExp | gfLog => exact errorOf_bind_last (errorOf_operandCheck (by simp))
  | rsBlock k => exact errorOf_rsBlockBody s k
  | ecPipeline => exact errorOf_ecPipelineBody s
  | paintFinders | paintSeparators | paintAlignment | paintTiming | paintDark | reserveFormat | reserveVersion
  | paintFunctional | paintVersion => exact errorOf_painterBody s _ _
  | walk => exact errorOf_walkBody s
  | paintFormat => exact errorOf_paintFormatBody s
  | generate => exact errorOf_generateBody s

end

/-- Settles O10: the body's error is the expected one; it drops the body's effects, and without one the body ends with STATUS
completed. -/
theorem errorsFollowTheChecks : Obligations.ErrorsFollowTheChecks := by
  intro i s
  rw [← errorOf_commandBody]
  cases hbody : commandBody i s with
  | ok u =>
    have hstatus : u.complete.status = doneStatus s.status :=
      (State.complete_status u).trans (congrArg Status.complete (commandEffect_of_body hbody).status)
    exact ⟨fun c hc => by simp at hc, fun _ => ⟨_, exec_of_commandBody_ok hbody, hstatus⟩⟩
  | error c =>
    refine ⟨fun c' hc => ?_, fun hnone => by simp at hnone⟩
    obtain rfl : c = c' := by simpa using hc
    rw [RaisesOnly, exec_eq_runCommand, hbody]
    rfl

end Sys2Proof.Machine

/-! PROOF. The turns of the schedule, the reset values, and the host's transactions while BUSY (70_reset_and_hazards.md
R235 to R244). -/

namespace Sys2Proof.Machine

/-! ## The turns of the schedule -/

/-- The engine's turn, the head of the schedule or the empty schedule, comes off it (R244). -/
theorem nextAction_eq_engineAction {s : State} (hn : engineNext s) :
    nextAction s = engineAction (s.withTurns s.turns.tail) := by
  rcases hn with hs | ⟨ts, hs⟩
  · have hsame : s.withTurns s.turns.tail = s := by rw [hs, List.tail_nil, State.withTurns, ← hs]
    rw [hsame, nextAction, hs]
  · rw [nextAction, hs]
    rfl

/-- While BUSY, the engine's turn runs the command in `CMD` (R210). -/
theorem step_of_decode_ok {s : State} {i : Instr} (hb : s.status.busy = true) (hn : engineNext s)
    (hi : decode s.cmd = .ok i) : step s = exec i (s.withTurns s.turns.tail) := by
  rw [step, nextAction_of_engineNext hb hn]
  simp only [State.fetch, State.withTurns_cmd, hi]

/-- The engine's turn while it is idle changes nothing but the schedule (R226). -/
theorem step_of_idle {s : State} (hb : s.status.busy = false) (hn : engineNext s) :
    step s = .next (s.withTurns s.turns.tail) := by
  rw [step, nextAction_eq_engineAction hn]
  simp only [engineAction, State.withTurns_status, hb, Bool.false_eq_true, if_false]

theorem step_of_host {s : State} {r : Request} {ts : List Turn} (hs : s.turns = .host r :: ts) :
    step s = .next ((s.withTurns ts).transact r) := by
  rw [step, nextAction, hs]

theorem step_of_reset {s : State} {ts : List Turn} (hs : s.turns = .reset :: ts) :
    step s = .next ((s.withTurns ts).hardReset) := by
  rw [step, nextAction, hs]

theorem tail_engineFirst (ts : List Turn) : (engineFirst ts).tail = ts := by cases ts <;> rfl

theorem engineNext_issue (s : State) (w : Word) : engineNext (s.issue w) := by
  have hfirst (ts : List Turn) : engineFirst ts = [] ∨ ∃ rest, engineFirst ts = .engine :: rest := by
    cases ts with
    | nil => exact .inl rfl
    | cons t rest => exact .inr ⟨_, rfl⟩
  exact hfirst s.turns

/-- Once an accepted word is in `CMD`, the next step runs the command it decodes to (R210). -/
theorem step_issue {s : State} {w : Word} {i : Instr} (hi : decode w = .ok i) :
    step (s.issue w) = exec i (s.startCommand w) := by
  have htaken : (s.issue w).withTurns (s.issue w).turns.tail = s.startCommand w :=
    congrArg (s.startCommand w).withTurns (tail_engineFirst s.turns)
  rw [step_of_decode_ok (i := i) rfl (engineNext_issue s w) hi, htaken]

theorem tableWord_toNat (w : Word) : tableWord 32 w.toNat = w := by
  rw [tableWord, Nat.mod_eq_of_lt w.isLt, BitVec.ofNat_toNat, BitVec.setWidth_eq]

/-- Settles O7: each kind of turn has its step, and an accepted command is its word's decoding. -/
theorem stepRunsTheDecodedCommand : Obligations.StepRunsTheDecodedCommand := by
  refine ⟨fun _ _ => step_of_decode_ok, fun _ => step_of_idle, fun _ _ _ => step_of_host, fun _ _ => step_of_reset,
    fun s i hi => ?_⟩
  rw [State.withFetchWord, tableWord_toNat]
  exact step_issue (decodeOfEncode i hi)

/-! ## Reset -/

/-- Settles O15 by `reset_inv`, which the reset turn of O16 rests on too. -/
theorem resetMeetsTheInvariant : Obligations.ResetMeetsTheInvariant := reset_inv

/-- A reset turn leaves the reset state, but for the model's own fields and `P_REMAINDER` (R235, R236). -/
theorem eq_reset_of_step {s u : State} {ts : List Turn} (hu : u.turns = .reset :: ts) (h : step u = .next s) :
    s = { State.reset with turns := ts, epoch := u.epoch + 1, draws := u.draws, params := u.params } := by
  rw [step_of_reset hu] at h
  cases h
  rfl

/-- The register offsets that are 0 at reset: all but ID and `PARAM3`, which shows the format word of `CFG` 0 (R236). -/
theorem csr_reset_eq_zero : ∀ off ∈ [0x04, 0x08, 0x0C, 0x10, 0x14, 0x18, 0x1C, 0x20, 0x24, 0x28, 0x2C, 0x30, 0x34, 0x3C,
    0x40, 0x44, 0x48], State.reset.csr off = 0 := by decide

/-- `PARAM3` at reset: VALID and the format word of level 0 and mask 0 (R34, R236). -/
theorem param3_reset : (State.reset.csr 0x38).toNat = 0x800077C4 := by decide

/-- Settles O17: no register shows a field in which a state after a reset differs from `State.reset`, and no byte is
listed. -/
theorem resetValues : Obligations.ResetValues := by
  intro s h
  obtain ⟨ts, e, d, p, rfl⟩ : ∃ ts e d p, s = { State.reset with turns := ts, epoch := e, draws := d, params := p } := by
    rcases h with rfl | ⟨u, ts, hu, hstep⟩
    · exact ⟨_, _, _, _, rfl⟩
    · exact ⟨_, _, _, _, eq_reset_of_step hu hstep⟩
  exact ⟨rfl, rfl, fun _ => rfl, rfl, param3_reset, csr_reset_eq_zero⟩

/-! ## Writes while BUSY -/

/-- While BUSY, a legal write to STATUS is performed and any other is dropped and sets OVR (R241). -/
theorem busy_write {s : State} {r : Request} {n : Nat} (h : legalRequest r n) (hw : r.write = true)
    (hb : s.status.busy = true) :
    (r.addr.toNat ≠ 0x08 →
      ∃ d, s.transact r = responded { s with status := { s.status with ovr := true } } d false) ∧
    (r.addr.toNat = 0x08 → ∃ d, s.transact r = responded (registerWritten s 0x08 r.wdata.toNat) d false) := by
  have ht := transact_of_write (s := s) h hw
  rw [hostWrite_of_busy hb] at ht
  refine ⟨fun ha => ?_, fun ha => ?_⟩
  · rw [if_neg ha] at ht
    exact ⟨_, ht⟩
  · rw [if_pos ha] at ht
    rw [← writeCsr_eq_registerWritten]
    exact ⟨_, ht⟩

/-- Of STATUS's writers only the host's write-1-to-clear and the reset clear OVR (R241). -/
theorem ovr_cleared_by {s t : State} (hovr : s.status.ovr = true) (h : step s = .next t) (hclear : t.status.ovr = false) :
    (∃ ts, s.turns = .reset :: ts) ∨
    (∃ r ts, s.turns = .host r :: ts ∧ legalRequest r 4 ∧ r.write = true ∧ r.addr.toNat = 0x08 ∧
      r.wdata.getLsbD 8 = true) := by
  have hchanged : t.status.ovr ≠ s.status.ovr := by rw [hclear, hovr]; decide
  rcases statusHasThreeWriters s t h with hst | ⟨-, -, hst | ⟨c, hst⟩⟩ | ⟨-, hreset⟩ |
    ⟨r, ts, n, hs, hw, hlegal, ⟨-, -, hst⟩ | ⟨ha, hst⟩ | ⟨-, -, hst⟩⟩
  · exact absurd (congrArg Status.ovr hst) hchanged
  · exact absurd (congrArg Status.ovr hst) hchanged
  · exact absurd (congrArg Status.ovr hst) hchanged
  · exact .inl hreset
  · exact absurd (congrArg Status.ovr hst) hchanged
  · obtain rfl : n = 4 := hlegal.2.2 (by omega)
    have hbit : (s.status.ovr && !(r.wdata.toNat.testBit 8)) = false := (congrArg Status.ovr hst).symm.trans hclear
    rw [hovr, Bool.true_and, Bool.not_eq_false'] at hbit
    exact .inr ⟨r, ts, hs, hlegal, hw, ha, hbit⟩
  · exact absurd ((congrArg Status.ovr hst).trans hovr.symm) hchanged

/-- Settles O26, by the address of the write and by the writers of STATUS. -/
theorem writesWhileBusy : Obligations.WritesWhileBusy :=
  ⟨fun _ _ _ => busy_write, fun _ _ => ovr_cleared_by⟩

/-! ## Reads while BUSY -/

/-- A read of what the engine leaves alone is answered alike whether or not a command runs (R242). -/
theorem hostRead_of_stable {s : State} {a n : Nat} (h : stableWhileBusy a = true) : s.hostRead a n = s.readLanes a n := by
  rw [State.hostRead, h, Bool.not_true, Bool.and_false, if_neg (by decide)]

theorem hostRead_of_unstable {s : State} {a n : Nat} (hb : s.status.busy = true) (h : stableWhileBusy a = false) :
    s.hostRead a n = Config.freeWord s.draws := by
  rw [State.hostRead, hb, h]
  rfl

theorem steadyRegister_stable {a : Nat} (h : steadyRegister a) : stableWhileBusy a = true ∧ a < 0x100 := by
  have hall : ∀ a ∈ [0x00, 0x04, 0x08, 0x0C, 0x10, 0x14, 0x18, 0x20, 0x2C, 0x30, 0x34, 0x38, 0x3C],
      stableWhileBusy a = true ∧ a < 0x100 := by decide
  exact hall a h

theorem dataIn_stable {a : Nat} (h : 0x1000 ≤ a ∧ a < 0x2000) : stableWhileBusy a = true := by
  have hr : regionOf a = .dataIn := by
    unfold regionOf
    rw [if_neg (by omega), if_neg (by omega), if_pos h.2]
  rw [stableWhileBusy, hr]

/-- `ECBUF`, `STREAM` and the windows, region by region, and the engine's registers (R242). -/
theorem unsteadyAddress_unstable {a : Nat} (h : unsteadyAddress a) : stableWhileBusy a = false := by
  have hcsr : ∀ a ∈ [0x1C, 0x24, 0x28, 0x40, 0x44, 0x48], stableWhileBusy a = false := by decide
  rcases h with h | ⟨hlo, hhi⟩
  · exact hcsr a h
  have hr : regionOf a = .ecbuf ∨ regionOf a = .stream ∨ regionOf a = .matv ∨ regionOf a = .matf := by
    unfold regionOf
    rw [if_neg (by omega), if_neg (by omega), if_neg (by omega)]
    split_ifs <;> simp
  rw [stableWhileBusy]
  rcases hr with hr | hr | hr | hr <;> rw [hr]

/-- Settles O27: a stable address is answered with its lanes, which hold the register or the bytes there, and any other with
the draw. -/
theorem readsWhileBusy : Obligations.ReadsWhileBusy := by
  intro s r n hlegal hw hb
  have ht := transact_of_read (s := s) hlegal hw
  refine ⟨fun hsteady => ?_, fun hdata => ?_, fun hunsteady => ?_⟩
  · obtain ⟨hstable, hcsr⟩ := steadyRegister_stable hsteady
    obtain ⟨-, halign, hword⟩ := hlegal
    obtain rfl : n = 4 := hword hcsr
    rw [hostRead_of_stable hstable, readLanes_csr halign hcsr] at ht
    exact ⟨_, ht, csr_toNat s _⟩
  · rw [hostRead_of_stable (dataIn_stable hdata)] at ht
    have hmem : isMemAddr r.addr.toNat = true := isMemAddr_iff.mpr (by omega)
    exact ⟨_, ht, fun k hk => (byteOf_readLanes_covered hlegal hk).trans (byteAt_mem (isMemAddr_add hlegal hmem hk))⟩
  · rw [hostRead_of_unstable hb (unsteadyAddress_unstable hunsteady)] at ht
    exact ht

end Sys2Proof.Machine
